-- ==== Sys2Proof/Word.lean ====
section
/-! DEFINITION. The widths the block handles (00_scope.md R7, R8, R12): a request or register word, a telemetry byte,
a DShot frame, a payload. -/

namespace Sys2Proof

/-- A request word or a register-space word: 32 bits (R74, R51). -/
abbrev Word := BitVec 32

/-- One byte of the serial receiver (R36). -/
abbrev Byte := BitVec 8

/-- A DShot frame: 16 bits (R70). -/
abbrev Frame := BitVec 16

/-- A frame's payload: 11 bits (R70). -/
abbrev Payload := BitVec 11

/-- A register index: 6 bits (R51). -/
abbrev RegIndex := BitVec 6

end Sys2Proof
end

