-- ==== Sys2Proof/Machine/Check.lean ====
section
/-! DEFINITION. The telemetry check functions (42_telemetry.md R160, R161): CRC8_07, which is the default of the parameter
TLM_CHECK, and the plain XOR fold that 90_conflicts.md C3 keeps admissible. -/

namespace Sys2Proof.Machine

/-- One bit step of R160: shift left, and fold in the polynomial 0x07 when a 1 leaves bit 7. -/
def crcShift (c : Byte) : Byte :=
  if c.msb then (c <<< 1) ^^^ 0x07#8 else c <<< 1

/-- `n` bit steps. -/
def crcShifts : Nat → Byte → Byte
  | 0, c => c
  | n + 1, c => crcShifts n (crcShift c)

/-- One byte of R160: XOR the byte in, then 8 bit steps. -/
def crcByte (c d : Byte) : Byte := crcShifts 8 (c ^^^ d)

/-- R160: CRC-8, polynomial 0x07, initial value 0, most significant bit first, no reflection, no final XOR. -/
def crc807 (d : Vector Byte 9) : Byte := d.toList.foldl crcByte 0#8

/-- 90_conflicts.md C3: the plain XOR fold of the nine bytes, another admissible value of TLM_CHECK. -/
def xorFold (d : Vector Byte 9) : Byte := d.toList.foldl (· ^^^ ·) 0#8

end Sys2Proof.Machine
end

