-- ==== Sys2Proof/Config.lean ====
section
/-! DEFINITION. The configuration record `Cfg` of 00_scope.md R5, its well-formedness R6 (with DUR_W ≤ 32 of 10_state.md
R38), and the machine's own configuration as an opaque constant: every OPEN parameter, and every parameter with a default,
is free, so that a claim holds for every well-formed configuration (log entry 1). -/

namespace Sys2Proof

/-- ROUND_MODE (R5, R8): what Round does exactly halfway between two integers. -/
inductive RoundMode where
  /-- pick the even neighbour (the default) -/
  | halfEven
  /-- pick the larger neighbour -/
  | halfUp
deriving DecidableEq, Repr

/-- R5: the configuration record. It is not state: no step changes it (R21). -/
structure Cfg where
  /-- T_BIT: bit period, ticks -/
  tBit : Nat
  /-- T1H: high time of a 1 bit, ticks -/
  t1h : Nat
  /-- T0H: high time of a 0 bit, ticks -/
  t0h : Nat
  /-- T_PAUSE: inter-frame pause added to the last low time, ticks -/
  tPause : Nat
  /-- DUR_W: width in bits of one duration entry -/
  durW : Nat
  /-- MOTOR_POLES: motor pole count -/
  motorPoles : Nat
  /-- RX_DEPTH: capacity of the telemetry receive FIFO, bytes -/
  rxDepth : Nat
  /-- ROUND_MODE -/
  roundMode : RoundMode := .halfEven
  /-- TLM_CHECK: from the 9 data bytes to the expected checksum byte (R153, R161) -/
  tlmCheck : Vector Byte 9 → Byte := Machine.crc807
  /-- SHORT_READ_DRAINS: whether a decode that finds fewer than 10 bytes discards them (R151) -/
  shortReadDrains : Bool := true
  /-- ARM_TIME: minimum continuous time of disarmed frames before throttle, seconds (R220) -/
  armTime : Rat
  /-- TLM_EN_SEQ: command codes that enable telemetry, in order (R221) -/
  tlmEnSeq : List Payload
  /-- TLM_EN_REPS: repetitions of each code in TLM_EN_SEQ -/
  tlmEnReps : Nat
  /-- TLM_EN_TBIT: telemetry-request bit of the enable commands -/
  tlmEnTBit : Bool
  /-- TLM_EN_SETTLE: settle delay after the enable sequence, seconds -/
  tlmEnSettle : Rat
  /-- REG_BASE: where the register space sits in the host's address map (R59). No rule of the block reads it. -/
  regBase : Nat

namespace Cfg

/-- R6(a): 0 < T0H < T1H < T_BIT. -/
def timesOrdered (c : Cfg) : Bool := decide (0 < c.t0h ∧ c.t0h < c.t1h ∧ c.t1h < c.tBit)

/-- R6(b): the pause is positive. -/
def pausePositive (c : Cfg) : Bool := decide (1 ≤ c.tPause)

/-- R6(c): the longest low time fits in one entry. -/
def lowTimesFit (c : Cfg) : Bool := decide (c.tBit - c.t0h + c.tPause ≤ 2 ^ c.durW - 1)

/-- DEDUCED (log entry 2): the longer high time fits in one entry too, as R6(c) ('Every duration then fits in one entry') and R131
('no entry is truncated') say of every well-formed configuration. The inequality of R6(c) alone does not give it. -/
def highTimesFit (c : Cfg) : Bool := decide (c.t1h ≤ 2 ^ c.durW - 1)

/-- R6(d): an even, non-zero pole count. -/
def polesEven (c : Cfg) : Bool := decide (c.motorPoles % 2 = 0 ∧ 2 ≤ c.motorPoles)

/-- R6(e): one whole telemetry frame fits in the FIFO. -/
def fifoHoldsFrame (c : Cfg) : Bool := decide (10 ≤ c.rxDepth)

/-- R6(f): the enable codes are command codes, each sent at least once. -/
def enableCodesOk (c : Cfg) : Bool := c.tlmEnSeq.all (fun k => decide (k.toNat ≤ 47)) && decide (1 ≤ c.tlmEnReps)

/-- R38: a duration entry fits in a register word. -/
def entryFitsWord (c : Cfg) : Bool := decide (c.durW ≤ 32)

/-- R6 with the width bound of R38: the configurations that have runs. -/
def wf (c : Cfg) : Bool :=
  c.timesOrdered && c.pausePositive && c.lowTimesFit && c.highTimesFit && c.polesEven && c.fifoHoldsFrame
    && c.enableCodesOk && c.entryFitsWord

/-- EX1 of 95_test_vectors.md, with the illustrative host parameters of its Program D. EX1 leaves ARM_TIME, TLM_EN_SETTLE and
REG_BASE open; the values here serve tests only and no statement rests on them (DESIGN CHOICE, log entry 19). -/
def ex1 : Cfg where
  tBit := 20
  t1h := 15
  t0h := 7
  tPause := 40
  durW := 15
  motorPoles := 14
  rxDepth := 32
  armTime := 3
  tlmEnSeq := [13#11]
  tlmEnReps := 2
  tlmEnTBit := true
  tlmEnSettle := 1
  regBase := 0

end Cfg

/-- A configuration with the proof that it is well-formed. The proof field is R6's refusal: an ill-formed configuration is
no value of this type, so it has no runs. The defaults only show that the type has a value. -/
structure WfCfg where
  cfg : Cfg := Cfg.ex1
  ok : cfg.wf = true := by decide
deriving Inhabited

/-- R6: a model refuses an ill-formed configuration. -/
def Cfg.accept (c : Cfg) : Option WfCfg := if h : c.wf = true then some ⟨c, h⟩ else none

namespace Config

/-- The machine's configuration: FREE. Nothing is known of it but that it is well-formed (DESIGN CHOICE, log entry 1). -/
opaque chosen : WfCfg

/-- The machine's `Cfg`. -/
def cfg : Cfg := chosen.cfg

theorem cfg_wf : cfg.wf = true := chosen.ok

/-- DUR_W of the machine. -/
abbrev durW : Nat := cfg.durW

end Config

end Sys2Proof
end

