-- ==== Sys2Proof/Syntax.lean ====
section
/-! DEFINITION. The requests (30_encoding.md R76), one constructor per row of spec/opcode_table.json; a request word taken
apart into its fields (R75); why a word is illegal (R80); the assembler's statements (R83) and pseudo-requests (R84). -/

namespace Sys2Proof

/-- The six operations of R76 with their operands. An operand has exactly the width its field has in the request word, so
every term stands for a request that the port can carry. -/
inductive Instr where
  /-- NOP (R103) -/
  | nop
  /-- ENC_THR thr, t (R104): `thr` is the field IMM, a signed Q2.14 number (R77) -/
  | encThr (thr : BitVec 16) (t : Bool)
  /-- ENC_CMD code, t (R105): `code` is IMM[10:0] (R78) -/
  | encCmd (code : Payload) (t : Bool)
  /-- GEN_TRAIN (R133) -/
  | genTrain
  /-- SEND (R134) -/
  | send
  /-- TLM_DECODE (R150) -/
  | tlmDecode
deriving DecidableEq, Repr

/-- R75: the fields of a request word, legal or not. -/
structure Fields where
  /-- [31:28] OP -/
  op : BitVec 4
  /-- [27:17] RSV -/
  rsv : BitVec 11
  /-- [16] T -/
  t : Bool
  /-- [15:0] IMM -/
  imm : BitVec 16
deriving DecidableEq, Repr

/-- R80: the four reasons for which a word is illegal. The reason has no effect of its own (R81). -/
inductive Illegal where
  /-- (a) OP is in 0x6..0xF -/
  | reservedOp
  /-- (b) OP is 0x1 or 0x2 and w[27:17] is not 0 -/
  | reservedBits
  /-- (c) OP is 0x2 and w[15:11] is not 0 -/
  | codeTooWide
  /-- (d) OP is 0x0, 0x3, 0x4 or 0x5 and w[27:0] is not 0 -/
  | operandBits
deriving DecidableEq, Repr

/-- R83: the throttle operand as it is written. -/
inductive ThrArg where
  /-- a 16-bit hex literal: IMM itself -/
  | hex (imm : BitVec 16)
  /-- a decimal rational -/
  | dec (r : Rat)
deriving DecidableEq, Repr

/-- R83: an assembler statement. -/
inductive Stmt where
  | nop
  | encThr (thr : ThrArg) (t : Bool)
  | encCmd (code : Nat) (t : Bool)
  | genTrain
  | send
  | tlmDecode
  /-- `.word`: any raw word -/
  | word (w : Word)
deriving DecidableEq, Repr

/-- R84: the pseudo-requests. -/
inductive Pseudo where
  | txThr (thr : ThrArg) (t : Bool)
  | txCmd (code : Nat) (t : Bool)
  | disarm
  | arm (n : Nat)
  | tlmEnable
deriving DecidableEq, Repr

/-- What a host does when it carries out a pseudo-request: issue a request, or wait a time in seconds (R84, R221). -/
inductive HostAct where
  | issue (st : Stmt)
  | wait (seconds : Rat)
deriving DecidableEq, Repr

end Sys2Proof
end

