-- ==== Sys2Proof/WellFormed.lean ====
section
/-! DEFINITION. Well-formedness of the terms that can be ill-formed: the fields of a request word (the column 'legal only if'
of 30_encoding.md R76, with R75) and an assembler statement (R83). A term of `Instr` is well-formed by its types; a
configuration is checked by `Cfg.wf` (R6) in Config.lean. -/

namespace Sys2Proof

namespace Fields

/-- R76: the operation is assigned. -/
def opAssigned (f : Fields) : Bool := decide (f.op.toNat ≤ 5)

/-- R75: RSV must be 0. -/
def rsvZero (f : Fields) : Bool := decide (f.rsv = 0#11)

/-- R75, R79: T must be 0 but for ENC_THR and ENC_CMD. -/
def tAllowed (f : Fields) : Bool := decide (f.t = false ∨ f.op = 1#4 ∨ f.op = 2#4)

/-- R75, R78: IMM is free for ENC_THR, an 11-bit code for ENC_CMD, and otherwise must be 0. -/
def immAllowed (f : Fields) : Bool :=
  decide (f.op = 1#4 ∨ (f.op = 2#4 ∧ f.imm.toNat < 2 ^ 11) ∨ f.imm = 0#16)

/-- R75, R76: the fields of a legal request. -/
def wf (f : Fields) : Bool := f.opAssigned && f.rsvZero && f.tAllowed && f.immAllowed

end Fields

namespace ThrArg

/-- R83: a decimal rational is accepted when r × 16384 is an integer in -32768..32767. -/
def wf : ThrArg → Bool
  | .hex _ => true
  | .dec r => decide ((r * 16384).den = 1 ∧ -32768 ≤ (r * 16384).num ∧ (r * 16384).num ≤ 32767)

end ThrArg

namespace Stmt

/-- R83: a command code is an integer in 0..2047. -/
def codeInRange (code : Nat) : Bool := decide (code ≤ 2047)

/-- R83: the statements the assembler accepts. -/
def wf : Stmt → Bool
  | .nop => true
  | .encThr thr _ => thr.wf
  | .encCmd code _ => codeInRange code
  | .genTrain => true
  | .send => true
  | .tlmDecode => true
  | .word _ => true

end Stmt

end Sys2Proof
end

