-- ==== Sys2Proof/Decode.lean ====
section
/-! DEFINITION. Request words to requests and back (30_encoding.md R75, R76, R80, R83): the fields, the decoder (total, each
illegal word refused by the name of its reason), the encoder, and the opcode table as rows of match and mask. -/

namespace Sys2Proof

/-- R75: a word taken apart. -/
def fieldsOf (w : Word) : Fields where
  op := w.extractLsb' 28 4
  rsv := w.extractLsb' 17 11
  t := w.getLsbD 16
  imm := w.extractLsb' 0 16

/-- R75: fields put together into a word. -/
def Fields.word (f : Fields) : Word := f.op ++ f.rsv ++ BitVec.ofBool f.t ++ f.imm

/-- A request that takes no operand: legal only if w[27:0] = 0 (R76). -/
def decodePlain (w : Word) (i : Instr) : Except Illegal Instr :=
  if w.extractLsb' 0 28 = 0#28 then .ok i else .error .operandBits

/-- OP = 0x1 (R76, R77). -/
def decodeEncThr (w : Word) : Except Illegal Instr :=
  if w.extractLsb' 17 11 = 0#11 then .ok (.encThr (w.extractLsb' 0 16) (w.getLsbD 16)) else .error .reservedBits

/-- OP = 0x2 (R76, R78). -/
def decodeEncCmd (w : Word) : Except Illegal Instr :=
  if w.extractLsb' 17 11 = 0#11 then
    if w.extractLsb' 11 5 = 0#5 then .ok (.encCmd (w.extractLsb' 0 11) (w.getLsbD 16)) else .error .codeTooWide
  else .error .reservedBits

/-- R80: `Decode(w)`, total on all 2^32 words. -/
def decode (w : Word) : Except Illegal Instr :=
  match (w.extractLsb' 28 4).toNat with
  | 0 => decodePlain w .nop
  | 1 => decodeEncThr w
  | 2 => decodeEncCmd w
  | 3 => decodePlain w .genTrain
  | 4 => decodePlain w .send
  | 5 => decodePlain w .tlmDecode
  | _ => .error .reservedOp

/-- R76: the fields of a request. -/
def Instr.fields : Instr → Fields
  | .nop => ⟨0x0#4, 0#11, false, 0#16⟩
  | .encThr thr t => ⟨0x1#4, 0#11, t, thr⟩
  | .encCmd code t => ⟨0x2#4, 0#11, t, code.setWidth 16⟩
  | .genTrain => ⟨0x3#4, 0#11, false, 0#16⟩
  | .send => ⟨0x4#4, 0#11, false, 0#16⟩
  | .tlmDecode => ⟨0x5#4, 0#11, false, 0#16⟩

/-- R83: the word of a request. -/
def encode (i : Instr) : Word := i.fields.word

/-- One row of spec/opcode_table.json: the words of the row are those with `w &&& mask` equal to the row's match, here `base`. -/
structure TableRow where
  mnemonic : String
  base : Word
  mask : Word
deriving DecidableEq, Repr

/-- spec/opcode_table.json, row by row. -/
def opcodeTable : List TableRow :=
  [ ⟨"NOP", 0x00000000#32, 0xFFFFFFFF#32⟩,
    ⟨"ENC_THR", 0x10000000#32, 0xFFFE0000#32⟩,
    ⟨"ENC_CMD", 0x20000000#32, 0xFFFEF800#32⟩,
    ⟨"GEN_TRAIN", 0x30000000#32, 0xFFFFFFFF#32⟩,
    ⟨"SEND", 0x40000000#32, 0xFFFFFFFF#32⟩,
    ⟨"TLM_DECODE", 0x50000000#32, 0xFFFFFFFF#32⟩ ]

/-- The words of a row. -/
def TableRow.covers (r : TableRow) (w : Word) : Bool := w &&& r.mask == r.base

/-- A request's name in the opcode table. -/
def Instr.mnemonic : Instr → String
  | .nop => "NOP"
  | .encThr _ _ => "ENC_THR"
  | .encCmd _ _ => "ENC_CMD"
  | .genTrain => "GEN_TRAIN"
  | .send => "SEND"
  | .tlmDecode => "TLM_DECODE"

/-- The request word that the opcode table's numbering of bits gives: a request is ONE 32-bit word (R74), so bit n of the
table is bit n of the word and no byte order enters (R54; DEDUCED, log entry 15). -/
def tableWord (nbits w : Nat) : Word := BitVec.ofNat 32 (w % 2 ^ nbits)

/-- The instruction the decoder reads from a table word. -/
def decodeTableWord (nbits w : Nat) : Option Instr := (decode (tableWord nbits w)).toOption

end Sys2Proof
end

