-- ==== Sys2Proof/Machine/Train.lean ====
section
/-! DEFINITION. The train function (41_pulse_train.md R130): the 32 durations of a frame, as exact numbers of ticks and as the
entries of DUR_W bits that TRAIN holds. -/

namespace Sys2Proof.Machine

/-- R130: the high time of a frame bit. -/
def highTime (c : Cfg) (bit : Bool) : Nat := if bit then c.t1h else c.t0h

/-- R130, R132: entry k is the on (k even) or off (k odd) duration of the pair that sends frame bit 15 - k / 2; the last one
is extended by the pause. -/
def duration (c : Cfg) (f : Frame) (k : Nat) : Nat :=
  if k % 2 = 0 then highTime c (f.getLsbD (15 - k / 2))
  else if k = 31 then c.tBit - highTime c (f.getLsbD (15 - k / 2)) + c.tPause
  else c.tBit - highTime c (f.getLsbD (15 - k / 2))

/-- R130: Train(f), entry by entry, each in DUR_W bits (R72), to which no duration is cut in a well-formed configuration
(log entry 17). Irreducible, so that no proof computes 32 entries to compare two
trains; its lemmas are in Laws/Train.lean. -/
@[irreducible] def trainOf (c : Cfg) (f : Frame) : Vector (BitVec c.durW) 32 :=
  Vector.ofFn fun k => BitVec.ofNat c.durW (duration c f k.val)

end Sys2Proof.Machine
end

