-- ==== Sys2Proof/Machine/State.lean ====
section
/-! DEFINITION. The machine's state: the record of 10_state.md R44, the output history it asks for, and the outside world as
plain data (what the host has read, the requests it presents, and which agent moves next). The reasons a step can stop, and
the state after reset (R42, R210). -/

namespace Sys2Proof.Machine

/-- R32: the field TLM_LAST of STATUS. -/
inductive TlmLast where
  /-- no TLM_DECODE since reset -/
  | none
  /-- frame accepted -/
  | ok
  /-- fewer than 10 bytes were available -/
  | short
  /-- the checksum byte did not match -/
  | badsum
deriving DecidableEq, Repr

/-- TRAIN[0..31]: 32 entries of DUR_W bits each (R25). -/
abbrev Train := Vector (BitVec Config.durW) 32

/-- R36: which byte a push into a full FIFO loses. A free choice of the step. -/
inductive Loss where
  /-- the new byte is dropped -/
  | newest
  /-- the oldest byte is removed and the new one appended -/
  | oldest
deriving DecidableEq, Repr

/-- R20: which agent moves in a step, with what it brings (DESIGN CHOICE, log entry 4). -/
inductive Turn where
  /-- the host presents its next request, and the block performs it if it accepts it (R41) -/
  | host
  /-- the host reads a register (R39) -/
  | read (k : RegIndex)
  /-- the serial receiver pushes a byte (R36) -/
  | rx (b : Byte) (loss : Loss)
  /-- the pulse generator raises train_done (R135) -/
  | done
  /-- the platform asserts rst (R210) -/
  | rst
deriving DecidableEq, Repr

/-- Why the machine would stop with a fault: there is no such reason. The block raises no exception, and no request traps,
halts or stops it (R180, R195). Safe: an empty type leaves nothing out that the spec describes.
DEDUCED (log entry 11). -/
inductive Fault
deriving DecidableEq, Repr

/-- Why a step would be refused. -/
inductive Refusal where
  /-- raised by an arm of `exec` whose instruction has no meaning yet; no arm is such. Safe: the machine would stop. -/
  | notModelled (mnemonic : String)
deriving DecidableEq, Repr

/-- The state (R44): STATUS is held as its three fields (R31). -/
structure State where
  /-- FRAME (R24) -/
  frame : Frame
  /-- TRAIN[0..31] (R25) -/
  train : Train
  /-- TLM_TEMP (R26) -/
  tlmTemp : BitVec 8
  /-- TLM_VOLT (R27) -/
  tlmVolt : BitVec 16
  /-- TLM_CURR (R28) -/
  tlmCurr : BitVec 16
  /-- TLM_CONS (R29) -/
  tlmCons : BitVec 16
  /-- TLM_ERPM (R30) -/
  tlmErpm : BitVec 16
  /-- STATUS.TLM_LAST (R32) -/
  tlmLast : TlmLast
  /-- STATUS.TLM_VALID (R33) -/
  tlmValid : Bool
  /-- STATUS.REQ_ILLEGAL (R34) -/
  reqIllegal : Bool
  /-- RXQ, oldest byte first (R35) -/
  rxq : List Byte
  /-- GEN_BUSY (R37) -/
  genBusy : Bool
  /-- the output history: the trains handed to the generator, oldest first (R44, R134) -/
  sent : List Train
  /-- the model's own: what the host has read, (index, word), oldest first (R39) -/
  reads : List (RegIndex × Word)
  /-- the model's own: the requests the host still has to issue, next one first (R23, R41) -/
  reqs : List Word
  /-- the model's own: the schedule, who moves next (R20) -/
  sched : List Turn
deriving DecidableEq, Repr

/-- R42, R210: the state right after reset. The histories, the host's list and the schedule are empty (DESIGN CHOICE, log entry 8). -/
def State.reset : State where
  frame := 0#16
  train := trainOf Config.cfg 0#16
  tlmTemp := 0#8
  tlmVolt := 0#16
  tlmCurr := 0#16
  tlmCons := 0#16
  tlmErpm := 0#16
  tlmLast := .none
  tlmValid := false
  reqIllegal := false
  rxq := []
  genBusy := false
  sent := []
  reads := []
  reqs := []
  sched := []

end Sys2Proof.Machine
end

