-- ==== Sys2Proof/Machine/Flags.lean ====
section
/-! DEFINITION. STATUS as the host reads it (10_state.md R31, R32). It is the block's only set of flags. -/

namespace Sys2Proof.Machine

/-- R32: the two bits of TLM_LAST. -/
def TlmLast.code : TlmLast → BitVec 2
  | .none => 0#2
  | .ok => 1#2
  | .short => 2#2
  | .badsum => 3#2

/-- R31: [1:0] TLM_LAST, [2] TLM_VALID, [3] REQ_ILLEGAL, [31:4] read 0. -/
def statusWord (s : State) : Word :=
  0#28 ++ BitVec.ofBool s.reqIllegal ++ BitVec.ofBool s.tlmValid ++ s.tlmLast.code

end Sys2Proof.Machine
end

