-- ==== Sys2Proof/Machine/Frame.lean ====
section
/-! DEFINITION. The shared functions of the frame encoder (40_frame_encoder.md R100 to R102, R106; 00_scope.md R8): the checksum,
the frame, rounding, and the throttle mapping, on exact rationals as R102 states it and on the Q2.14 port as ENC_THR runs it. -/

namespace Sys2Proof.Machine

/-- R100: the XOR of the three nibbles of a 12-bit value. -/
def checksum (v : BitVec 12) : BitVec 4 := v.extractLsb' 8 4 ^^^ v.extractLsb' 4 4 ^^^ v.extractLsb' 0 4

/-- R100's second form: shift, XOR and mask. -/
def checksumMasked (v : BitVec 12) : BitVec 12 := (v ^^^ (v >>> 4) ^^^ (v >>> 8)) &&& 0xF#12

/-- R71: the checksummed part of a frame, PAYLOAD : TREQ. -/
def upper12 (p : Payload) (t : Bool) : BitVec 12 := p ++ BitVec.ofBool t

/-- R101: MakeFrame(p, t). -/
def makeFrame (p : Payload) (t : Bool) : Frame := upper12 p t ++ checksum (upper12 p t)

/-- R70: the field PAYLOAD of a frame. -/
def framePayload (f : Frame) : Payload := f.extractLsb' 5 11

/-- R70: the field TREQ of a frame. -/
def frameTreq (f : Frame) : Bool := f.getLsbD 4

/-- R106: FrameOK(f), the consistency of R71. The block never evaluates it. -/
def frameOK (f : Frame) : Bool := f.extractLsb' 0 4 == checksum (f.extractLsb' 4 12)

/-- R8: Round of the non-negative rational n / d. -/
def roundQuot (m : RoundMode) (n d : Nat) : Nat :=
  if 2 * (n % d) < d then n / d
  else if d < 2 * (n % d) then n / d + 1
  else match m with
    | .halfEven => if n / d % 2 = 0 then n / d else n / d + 1
    | .halfUp => n / d + 1

/-- R8: Round of a non-negative rational. -/
def roundRat (m : RoundMode) (x : Rat) : Nat :=
  let n := x.floor.toNat
  if x - n < 1 / 2 then n
  else if 1 / 2 < x - n then n + 1
  else match m with
    | .halfEven => if n % 2 = 0 then n else n + 1
    | .halfUp => n + 1

/-- R8: clamp(x, lo, hi). -/
def clampRat (x lo hi : Rat) : Rat := if x < lo then lo else if hi < x then hi else x

/-- R102: ThrottlePayload(v) on the exact rational v, as the rule states it; it serves any exact value of v (R77). -/
def throttlePayloadRat (m : RoundMode) (v : Rat) : Nat :=
  let c := clampRat v 0 1
  if c = 0 then 0 else roundRat m (c * 2000) + 47

/-- R8: clamp on integers. -/
def clampInt (x lo hi : Int) : Int := if x < lo then lo else if hi < x then hi else x

/-- R102 on the Q2.14 port (R77), where v = thr / 16384: the clamped value is c / 16384 and c × 2000 / 16384 is rounded
(DEDUCED, log entry 18). -/
def throttlePayload (m : RoundMode) (thr : Int) : Payload :=
  let c := (clampInt thr 0 16384).toNat
  if c = 0 then 0#11 else BitVec.ofNat 11 (roundQuot m (c * 2000) 16384 + 47)

end Sys2Proof.Machine
end

