-- ==== Sys2Proof/Machine/Operands.lean ====
section
/-! DEFINITION. Operand assembly: the throttle and code operands of a request (30_encoding.md R77, R78), and the telemetry
frame taken from the waiting bytes (20_memory.md R53, R54; 42_telemetry.md R152, R154). -/

namespace Sys2Proof.Machine

/-- R77: thr = sext_16(w[15:0]), in -32768..32767. -/
def thrOperand (imm : BitVec 16) : Int := imm.toInt

/-- R77: the exact throttle value v = thr / 16384. -/
def throttleValue (imm : BitVec 16) : Rat := thrOperand imm / 16384

/-- R78: code = zext_11(w[10:0]); it is the payload as it stands, unchecked. -/
def codeOperand (code : Payload) : Payload := code

/-- R53: a big-endian 16-bit field, the byte at the lower frame position being the high one. -/
def be16 (hi lo : Byte) : BitVec 16 := hi ++ lo

/-- R152: buf[n-10 .. n-1] of n ≥ 10 waiting bytes, in arrival order. (With fewer bytes no rule reads it; DESIGN
CHOICE, log entry 17.) -/
def newest10 (buf : List Byte) : Vector Byte 10 :=
  Vector.ofFn fun i => (buf[buf.length - 10 + i.val]?).getD 0#8

/-- R153: f[0..8], the bytes that the checksum byte covers. -/
def checkedBytes (f : Vector Byte 10) : Vector Byte 9 := Vector.ofFn fun i => f[i.val]

end Sys2Proof.Machine
end

