-- ==== Sys2Proof/Machine/Ops.lean ====
section
/-! DEFINITION. The shared operations over the state: register writes, the register read, the receive FIFO, the hand-off to the
generator, an illegal request, reset. There is no trap to enter or return from (60_exceptions.md R185, R186); what an error leaves
behind is REQ_ILLEGAL, written by `rejectRequest` alone (R182). -/

namespace Sys2Proof.Machine

namespace State

/-- STATUS.REQ_ILLEGAL <- b (R34). -/
def setReqIllegal (b : Bool) (s : State) : State := { s with reqIllegal := b }

/-- FRAME <- f (R24). -/
def setFrame (f : Frame) (s : State) : State := { s with frame := f }

/-- TRAIN[0..31] <- t, all entries in one step (R25). -/
def setTrain (t : Train) (s : State) : State := { s with train := t }

/-- STATUS.TLM_LAST <- l (R32). -/
def setTlmLast (l : TlmLast) (s : State) : State := { s with tlmLast := l }

/-- RXQ <- q (R35). -/
def setRxq (q : List Byte) (s : State) : State := { s with rxq := q }

/-- GEN_BUSY <- b (R37). -/
def setGenBusy (b : Bool) (s : State) : State := { s with genBusy := b }

/-- Record Tx(t) in the output history (R134). -/
def recordTx (t : Train) (s : State) : State := { s with sent := s.sent ++ [t] }

/-- Record a host read. -/
def recordRead (k : RegIndex) (w : Word) (s : State) : State := { s with reads := s.reads ++ [(k, w)] }

/-- The host's remaining requests. -/
def setReqs (ws : List Word) (s : State) : State := { s with reqs := ws }

/-- The remaining schedule. -/
def setSched (ts : List Turn) (s : State) : State := { s with sched := ts }

/-- R154, R155: the five fields of an accepted frame and TLM_VALID <- 1, TLM_LAST <- OK, in one step. -/
def latchTlm (f : Vector Byte 10) (s : State) : State :=
  { s with
    tlmTemp := f[0]
    tlmVolt := be16 f[1] f[2]
    tlmCurr := be16 f[3] f[4]
    tlmCons := be16 f[5] f[6]
    tlmErpm := be16 f[7] f[8]
    tlmValid := true
    tlmLast := .ok }

end State

/-- R41: req_ready = 1 exactly when GEN_BUSY = 0. -/
def reqReady (s : State) : Bool := !s.genBusy

/-- R34: what every legal request does to REQ_ILLEGAL. -/
def acceptRequest (s : State) : State := s.setReqIllegal false

/-- R182: an illegal request. It sets REQ_ILLEGAL and changes nothing else. -/
def rejectRequest (s : State) : State := s.setReqIllegal true

/-- R38: the word of register index k. -/
def regRead (s : State) (k : RegIndex) : Word :=
  if h : 8 ≤ k.toNat ∧ k.toNat < 40 then (s.train[k.toNat - 8]'(by omega)).setWidth 32
  else match k.toNat with
    | 0 => statusWord s
    | 1 => s.frame.setWidth 32
    | 2 => s.tlmTemp.setWidth 32
    | 3 => s.tlmVolt.setWidth 32
    | 4 => s.tlmCurr.setWidth 32
    | 5 => s.tlmCons.setWidth 32
    | 6 => s.tlmErpm.setWidth 32
    | _ => 0#32

/-- R39: a host read. It has no side effect on the block; the host has the word (the record is a DESIGN CHOICE, log entry 9). -/
def hostRead (k : RegIndex) (s : State) : State := s.recordRead k (regRead s k)

/-- R36, R67: RxPush(b). Below RX_DEPTH the byte is appended at the tail; into a full FIFO one byte is lost, and the
turn says which (DESIGN CHOICE, log entry 5). -/
def rxPush (c : Cfg) (b : Byte) (loss : Loss) (s : State) : State :=
  if s.rxq.length < c.rxDepth then s.setRxq (s.rxq ++ [b])
  else match loss with
    | .newest => s
    | .oldest => s.setRxq (s.rxq.drop 1 ++ [b])

/-- R58: RxDrain(): the waiting bytes, oldest first, and the state with RXQ empty. -/
def rxDrain (s : State) : List Byte × State := (s.rxq, s.setRxq [])

/-- R134, R135: hand TRAIN to the generator. GEN_BUSY stays 1 until the generator reports done. -/
def emitTrain (s : State) : State := (s.setGenBusy true).recordTx s.train

/-- R135: the generator raises train_done. While the block is not busy it does nothing (DESIGN CHOICE, log entry 6). -/
def genDone (s : State) : State := s.setGenBusy false

/-- R210: reset. Every piece of the block's state takes its value of R42; the output history keeps an abandoned train, and what
is outside the block stays (DESIGN CHOICE, log entry 7). -/
def resetBlock (s : State) : State :=
  { State.reset with sent := s.sent, reads := s.reads, reqs := s.reqs, sched := s.sched }

/-- The state in which the next step is the host's and it presents w first, to a block that is ready (DESIGN CHOICE, log
entry 10). -/
def placeRequest (w : Word) (s : State) : State :=
  ((s.setReqs (w :: s.reqs)).setSched (.host :: s.sched)).setGenBusy false

end Sys2Proof.Machine
end

