-- ==== Sys2Proof/Machine/FrameEncoder.lean ====
section
/-! DEFINITION. The requests of the frame encoder: NOP, ENC_THR, ENC_CMD (40_frame_encoder.md R103 to R105). -/

namespace Sys2Proof.Machine

/-- R103: NOP. -/
def execNop (s : State) : Host.Outcome State Fault Refusal := .next (acceptRequest s)

/-- R104 under a configuration: FRAME <- MakeFrame(ThrottlePayload(v), t). -/
def encThrWith (c : Cfg) (thr : BitVec 16) (t : Bool) (s : State) : State :=
  acceptRequest (s.setFrame (makeFrame (throttlePayload c.roundMode (thrOperand thr)) t))

/-- R104: ENC_THR thr, t. -/
def execEncThr (thr : BitVec 16) (t : Bool) (s : State) : Host.Outcome State Fault Refusal :=
  .next (encThrWith Config.cfg thr t s)

/-- R105: ENC_CMD code, t: FRAME <- MakeFrame(code, t), the code unchecked. -/
def execEncCmd (code : Payload) (t : Bool) (s : State) : Host.Outcome State Fault Refusal :=
  .next (acceptRequest (s.setFrame (makeFrame (codeOperand code) t)))

end Sys2Proof.Machine
end

