-- ==== Sys2Proof/Machine/PulseTrain.lean ====
section
/-! DEFINITION. The requests of the pulse-train timer: GEN_TRAIN, SEND (41_pulse_train.md R133, R134). -/

namespace Sys2Proof.Machine

/-- R133: GEN_TRAIN: TRAIN <- Train(FRAME), all 32 entries in one step. FRAME is not checked. -/
def execGenTrain (s : State) : Host.Outcome State Fault Refusal :=
  .next (acceptRequest (s.setTrain (trainOf Config.cfg s.frame)))

/-- R134: SEND: TRAIN as it stands goes to the generator and into the output history; GEN_BUSY <- 1. The wait is the hold of
R41, and GEN_BUSY <- 0 is the generator's turn (R10, R135). -/
def execSend (s : State) : Host.Outcome State Fault Refusal := .next (emitTrain (acceptRequest s))

end Sys2Proof.Machine
end

