-- ==== Sys2Proof/Machine/Telemetry.lean ====
section
/-! DEFINITION. The request of the telemetry parser: TLM_DECODE (42_telemetry.md R150 to R157). -/

namespace Sys2Proof.Machine

/-- R151: the short read. No field is written; the waiting bytes are discarded or stay (SHORT_READ_DRAINS). -/
def tlmShort (c : Cfg) (s : State) : State :=
  (if c.shortReadDrains then (rxDrain s).2 else s).setTlmLast .short

/-- R153: f[9] = TLM_CHECK(f[0..8]). -/
def tlmCheckOk (c : Cfg) (f : Vector Byte 10) : Bool := c.tlmCheck (checkedBytes f) == f[9]

/-- R152, R153, R155, R156: with at least 10 bytes waiting, all leave the FIFO and the newest 10 are accepted or rejected. -/
def tlmFrame (c : Cfg) (s : State) : State :=
  let drained := rxDrain s
  let f := newest10 drained.1
  if tlmCheckOk c f then drained.2.latchTlm f else drained.2.setTlmLast .badsum

/-- R150 under a configuration; the short-read check comes first (R183). -/
def tlmDecodeWith (c : Cfg) (s : State) : State :=
  if s.rxq.length < 10 then tlmShort c (acceptRequest s) else tlmFrame c (acceptRequest s)

/-- R150: TLM_DECODE. -/
def execTlmDecode (s : State) : Host.Outcome State Fault Refusal := .next (tlmDecodeWith Config.cfg s)

end Sys2Proof.Machine
end

