-- ==== Sys2Proof/Machine/Dispatch.lean ====
section
/-! DEFINITION. One arm per constructor of `Instr`: the request's meaning. -/

namespace Sys2Proof.Machine

def exec (i : Instr) (s : State) : Host.Outcome State Fault Refusal :=
  match i with
  | .nop => Sys2Proof.Machine.execNop s
  | .encThr thr t => Sys2Proof.Machine.execEncThr thr t s
  | .encCmd code t => Sys2Proof.Machine.execEncCmd code t s
  | .genTrain => Sys2Proof.Machine.execGenTrain s
  | .send => Sys2Proof.Machine.execSend s
  | .tlmDecode => Sys2Proof.Machine.execTlmDecode s

end Sys2Proof.Machine
end

