-- ==== Sys2Proof/Machine/Turns.lean ====
section
/-! DEFINITION. What each agent's move does (10_state.md R20, R36, R39, R41; 70_reset_and_hazards.md R210). -/

namespace Sys2Proof.Machine

/-- R182, R183: an accepted request word is decoded first; an illegal one sets REQ_ILLEGAL and nothing else. -/
def perform (w : Word) (s : State) : Host.Outcome State Fault Refusal :=
  match decode w with
  | .ok i => exec i s
  | .error _ => .next (rejectRequest s)

/-- R41: the host presents the first request of its list. The block accepts it exactly when it is ready, and performs it in the
same step; otherwise the request goes on waiting (DESIGN CHOICE, log entry 3). That `exec` itself does not look at GEN_BUSY is
DEDUCED (log entry 16). -/
def hostTurn (s : State) : Host.Outcome State Fault Refusal :=
  match s.reqs with
  | [] => .next s
  | w :: ws => if reqReady s then perform w (s.setReqs ws) else .next s

/-- R20: one agent moves. -/
def takeTurn (t : Turn) (s : State) : Host.Outcome State Fault Refusal :=
  match t with
  | .host => hostTurn s
  | .read k => .next (hostRead k s)
  | .rx b loss => .next (rxPush Config.cfg b loss s)
  | .done => .next (genDone s)
  | .rst => .next (resetBlock s)

/-- One step of the schedule. Where no agent moves, the block is idle with all state held (R194; DESIGN CHOICE,
log entry 4). -/
def schedStep (s : State) : Host.Outcome State Fault Refusal :=
  match s.sched with
  | [] => .next s
  | t :: ts => takeTurn t (s.setSched ts)

end Sys2Proof.Machine
end

