-- ==== Sys2Proof/Machine/Step.lean ====
section
/-! DEFINITION. The step of the machine, and how a request word is placed where the next step takes it. -/

namespace Sys2Proof.Machine

/-- One step: the agent that the schedule names next moves (R10, R20). -/
def step (s : State) : Host.Outcome State Fault Refusal := schedStep s

/-- `s` with a request word placed so that the very next step accepts and performs it (log entry 10). -/
def State.withFetchWord (s : State) (nbits w : Nat) : State := placeRequest (tableWord nbits w) s

end Sys2Proof.Machine
end

