-- ==== Sys2Proof/Machine/Assembler.lean ====
section
/-! DEFINITION. The host's side: the assembler of request words (30_encoding.md R83), the pseudo-requests (R84), and the words
they put on the request port. None of it is a hardware operation. -/

namespace Sys2Proof.Machine

/-- R83: IMM of a throttle operand. -/
def thrImm : ThrArg → BitVec 16
  | .hex imm => imm
  | .dec r => BitVec.ofInt 16 (r * 16384).num

/-- R83: the word of a statement that the assembler accepts. -/
def stmtWord : Stmt → Word
  | .nop => encode .nop
  | .encThr thr t => encode (.encThr (thrImm thr) t)
  | .encCmd code t => encode (.encCmd (BitVec.ofNat 11 code) t)
  | .genTrain => encode .genTrain
  | .send => encode .send
  | .tlmDecode => encode .tlmDecode
  | .word w => w

/-- R83: assemble a statement, or refuse it. Statements are terms, not text (DESIGN CHOICE, log entry 14). -/
def assemble (st : Stmt) : Option Word := if st.wf then some (stmtWord st) else none

/-- R84: TX_CMD c, t. -/
def txCmdActs (code : Nat) (t : Bool) : List HostAct :=
  [.issue (.encCmd code t), .issue .genTrain, .issue .send]

/-- R84: what a host does for a pseudo-request, in order. -/
def expand (c : Cfg) : Pseudo → List HostAct
  | .txThr thr t => [.issue (.encThr thr t), .issue .genTrain, .issue .send]
  | .txCmd code t => txCmdActs code t
  | .disarm => txCmdActs 0 false
  | .arm n => (List.replicate n (txCmdActs 0 false)).flatten
  | .tlmEnable =>
      (c.tlmEnSeq.flatMap fun k => (List.replicate c.tlmEnReps (txCmdActs k.toNat c.tlmEnTBit)).flatten)
        ++ [.wait c.tlmEnSettle]

/-- The statements a host issues. -/
def issued (acts : List HostAct) : List Stmt :=
  acts.filterMap fun
    | .issue st => some st
    | .wait _ => none

/-- The request words of a host's actions, or none where the assembler refuses a statement. -/
def actWords (acts : List HostAct) : Option (List Word) := (issued acts).mapM assemble

/-- The host takes words into its list of requests, behind those it still has (R23). -/
def present (ws : List Word) (s : State) : State := s.setReqs (s.reqs ++ ws)

end Sys2Proof.Machine
end

