-- ==== Sys2Proof/Machine/Generator.lean ====
section
/-! DEFINITION. The contract of the external pulse generator (41_pulse_train.md R132, R135 to R137; 70_reset_and_hazards.md R210): what
a train is on the line. The block does none of this, and no step counts its time (R226; DEDUCED, log
entry 12). -/

namespace Sys2Proof.Machine

/-- R137: the line level between transmissions. -/
def idleLevel : Bool := false

/-- R135: what the line does for a train: for each i in 0..15, high for t[2i] ticks, then low for t[2i+1] ticks. -/
def lineSegments {w : Nat} (t : Vector (BitVec w) 32) : List (Bool × Nat) :=
  (List.finRange 16).flatMap fun i => [(true, (t[2 * i.val]).toNat), (false, (t[2 * i.val + 1]).toNat)]

/-- The level of the line tick by tick. -/
def lineTicks {w : Nat} (t : Vector (BitVec w) 32) : List Bool :=
  (lineSegments t).flatMap fun p => List.replicate p.2 p.1

/-- R136: the ticks a train takes: the sum of its 32 entries. -/
def transmissionTicks {w : Nat} (t : Vector (BitVec w) 32) : Nat := ((lineSegments t).map (·.2)).sum

/-- R210: what the line has shown of a train that reset cuts off after n ticks. Any n is admitted. -/
def lineUntilReset {w : Nat} (t : Vector (BitVec w) 32) (n : Nat) : List Bool := (lineTicks t).take n

/-- The frame the far end reads from a train: bit 15 - i is 1 when entry 2i is the high time of a 1 (R132, R72). -/
def frameOfTrain (c : Cfg) {w : Nat} (t : Vector (BitVec w) 32) : Frame :=
  BitVec.ofFnBE fun i : Fin 16 => decide ((t[2 * i.val]).toNat = c.t1h)

end Sys2Proof.Machine
end

