-- ==== Sys2Proof/Machine/Readout.lean ====
section
/-! DEFINITION. The physical-unit readouts (42_telemetry.md R162 to R167): exact functions of the latched registers, which the
block does not compute (R169). While TLM_VALID = 0 they stand for no measurement (R168). -/

namespace Sys2Proof.Machine

/-- R162: °C. -/
def temperatureC (s : State) : Nat := s.tlmTemp.toNat

/-- R163: V. -/
def voltageV (s : State) : Rat := s.tlmVolt.toNat / 100

/-- R164: A. -/
def currentA (s : State) : Rat := s.tlmCurr.toNat / 100

/-- R165: mAh. -/
def consumptionMAh (s : State) : Nat := s.tlmCons.toNat

/-- R166: electrical RPM. -/
def electricalRPM (s : State) : Nat := s.tlmErpm.toNat * 100

/-- R167: mechanical RPM, electrical RPM over the number of pole pairs. -/
def mechanicalRPM (c : Cfg) (s : State) : Rat := electricalRPM s / ((c.motorPoles / 2 : Nat) : Rat)

/-- R168: the mechanical RPM as a measurement, which there is only once a frame has been accepted. -/
def measuredRPM (c : Cfg) (s : State) : Option Rat := if s.tlmValid then some (mechanicalRPM c s) else none

end Sys2Proof.Machine
end

