-- ==== Sys2Proof/Safety.lean ====
section
/-! DEFINITION. The terms claims use: the invariant of the reachable states, what the encoder side of the machine is, and the
duties a host owes the ESC before a claim about the motor can be made (70_reset_and_hazards.md R220 to R222). -/

namespace Sys2Proof.Safety

open Sys2Proof.Machine

/-- A train built from a consistent frame (R133: FRAME is always consistent). -/
def BuiltTrain (t : Train) : Prop := ∃ f : Frame, frameOK f = true ∧ t = trainOf Config.cfg f

/-- The invariant that every step keeps. -/
structure Inv (s : State) : Prop where
  /-- FRAME is consistent (R133) -/
  frame_ok : frameOK s.frame = true
  /-- TRAIN was built from a consistent frame (R25) -/
  train_built : BuiltTrain s.train
  /-- and so was every train handed to the generator -/
  sent_built : ∀ t ∈ s.sent, BuiltTrain t
  /-- RXQ holds at most RX_DEPTH bytes (R35) -/
  rxq_fits : s.rxq.length ≤ Config.cfg.rxDepth
  /-- while TLM_VALID = 0 the TLM_* registers hold their reset values (R33) -/
  no_measurement : s.tlmValid = false →
    s.tlmTemp = 0#8 ∧ s.tlmVolt = 0#16 ∧ s.tlmCurr = 0#16 ∧ s.tlmCons = 0#16 ∧ s.tlmErpm = 0#16
  /-- TLM_LAST is OK only if a frame has been accepted, and NONE only if none has (R32, R33) -/
  ok_valid : s.tlmLast = .ok → s.tlmValid = true
  none_invalid : s.tlmLast = .none → s.tlmValid = false
  /-- while the generator plays, the last train sent is the one TRAIN still holds (R41, R134) -/
  busy_train : s.genBusy = true → s.sent.getLast? = some s.train

/-- Two states that agree on the encoder side: all but the telemetry registers, the receive FIFO and what the host has read. -/
structure SameEncoder (s s' : State) : Prop where
  frame : s.frame = s'.frame
  train : s.train = s'.train
  reqIllegal : s.reqIllegal = s'.reqIllegal
  genBusy : s.genBusy = s'.genBusy
  sent : s.sent = s'.sent
  reqs : s.reqs = s'.reqs

/-- Two states that agree on the telemetry side. -/
structure SameTelemetry (s s' : State) : Prop where
  tlmTemp : s.tlmTemp = s'.tlmTemp
  tlmVolt : s.tlmVolt = s'.tlmVolt
  tlmCurr : s.tlmCurr = s'.tlmCurr
  tlmCons : s.tlmCons = s'.tlmCons
  tlmErpm : s.tlmErpm = s'.tlmErpm
  tlmLast : s.tlmLast = s'.tlmLast
  tlmValid : s.tlmValid = s'.tlmValid
  rxq : s.rxq = s'.rxq

/-- A schedule without what the serial receiver pushes and the host reads. -/
def encoderTurns (ts : List Turn) : List Turn :=
  ts.filter fun
    | .rx _ _ => false
    | .read _ => false
    | _ => true

/-- The machine runs n steps, stopping at a fault or a refusal. -/
def runSteps : Nat → State → Host.Outcome State Fault Refusal
  | 0, s => .next s
  | n + 1, s =>
    match step s with
    | .next t => runSteps n t
    | .fault r => .fault r
    | .refused r => .refused r

/-- R220: a disarmed frame: payload 0. -/
def disarmedFrame (f : Frame) : Bool := framePayload f == 0#11

/-- R220: a frame with a non-zero throttle payload, 48..2047 (R70). -/
def throttleFrame (f : Frame) : Bool := decide (48 ≤ (framePayload f).toNat)

/-- R220: n disarmed frames span ARM_TIME, for a generator whose tick lasts `tick` seconds (R136; the tick is the platform's). DESIGN
CHOICE (log entry 20): only the frames' own transmission ticks count toward ARM_TIME, not the time between two of them, which the
spec leaves open (N9). -/
def SpansArmTime (c : Cfg) (tick : Rat) (n : Nat) : Prop := c.armTime ≤ n * (16 * c.tBit + c.tPause) * tick

/-- R220: the frames sent so far contain an unbroken run of disarmed frames that spans ARM_TIME, before any throttle. What else
breaks continuity the spec leaves open (N9), and no step has a time (DESIGN CHOICE, log entry 13). Once armed the ESC stays armed:
any frames `b` and any time may follow the run; and a throttle frame before the run leaves it unarmed for good (DESIGN CHOICE, log
entry 23; the spec says neither). -/
def Armed (c : Cfg) (tick : Rat) (fs : List Frame) : Prop :=
  ∃ a d b, fs = a ++ d ++ b ∧ (∀ f ∈ a, throttleFrame f = false) ∧ (∀ f ∈ d, disarmedFrame f = true) ∧
    SpansArmTime c tick d.length

/-- R220: the host's duty: before any throttle frame in a history of sent frames, the ESC has been armed. -/
def HostArms (c : Cfg) (tick : Rat) (fs : List Frame) : Prop :=
  ∀ a f b, fs = a ++ f :: b → throttleFrame f = true → Armed c tick a

/-- R221: the frames of the telemetry-enable sequence. -/
def enableFrames (c : Cfg) : List Frame :=
  c.tlmEnSeq.flatMap fun k => List.replicate c.tlmEnReps (makeFrame k c.tlmEnTBit)

/-- R221, the first duty: the history of sent frames holds the enable sequence, in order, after arming. DESIGN CHOICE (log entry 21):
other frames may stand between those of the sequence, of which the spec says nothing. -/
def EnableSequenceSent (c : Cfg) (tick : Rat) (fs : List Frame) : Prop :=
  ∃ a b, fs = a ++ b ∧ Armed c tick a ∧ (enableFrames c).Sublist b

/-- R221, the second duty: `waited` seconds since the sequence ended are at least TLM_EN_SETTLE. No step has a time (R226), so the
time is an argument, as in `PeriodAllowsSend`; its unit is the model's (DESIGN CHOICE, log entry 13). -/
def SettleWaited (c : Cfg) (waited : Rat) : Prop := c.tlmEnSettle ≤ waited

/-- R221: what the host must have done before the ESC relays telemetry continuously: both duties, `waited` being the time in seconds
since the last frame of the enable sequence. Once enabled the ESC stays so, whatever follows (DESIGN CHOICE, log entry 23). -/
def TelemetryEnabled (c : Cfg) (tick : Rat) (fs : List Frame) (waited : Rat) : Prop :=
  EnableSequenceSent c tick fs ∧ SettleWaited c waited

/-- R220, R221: the frames the ESC has been sent, read from the output history, in which a train that reset cuts off stays as sent
(R210). DESIGN CHOICE (log entry 22): such a train, and one that is still being played, counts here as a whole frame with all its
ticks, so it keeps a run of disarmed frames unbroken and counts toward ARM_TIME and the enable sequence; the spec leaves that open
(N9). -/
def sentFrames (s : State) : List Frame := s.sent.map (frameOfTrain Config.cfg)

/-- R222: a control tick of `period` ticks is longer than one transmission. -/
def PeriodAllowsSend (c : Cfg) (period : Nat) : Prop := 16 * c.tBit + c.tPause < period

end Sys2Proof.Safety
end

