-- ==== Sys2Proof/Certificates/Slice0/Obligations.lean ====
section
/-! DEFINITION. The statements for the provers. Each follows the rules of spec/ its docstring names; where one rests on a choice of
the model, the docstring says so and names the log entry. `Config.cfg` is the machine's free well-formed configuration, so a
statement about it holds for every one. -/

open Sys2Proof Sys2Proof.Machine Sys2Proof.Safety

/-! ## Configuration and reset -/

/-- R6, R38: the configurations that are accepted; every other one is refused. The bound on T1H is the model's (log entry 2). -/
def Obligations.ConfigurationAcceptedIff : Prop :=
  ∀ c : Cfg, c.accept.isSome = true ↔
    (0 < c.t0h ∧ c.t0h < c.t1h ∧ c.t1h < c.tBit) ∧ 1 ≤ c.tPause ∧
    c.tBit - c.t0h + c.tPause ≤ 2 ^ c.durW - 1 ∧ c.t1h ≤ 2 ^ c.durW - 1 ∧
    (c.motorPoles % 2 = 0 ∧ 2 ≤ c.motorPoles) ∧ 10 ≤ c.rxDepth ∧
    ((∀ k ∈ c.tlmEnSeq, k.toNat ≤ 47) ∧ 1 ≤ c.tlmEnReps) ∧ c.durW ≤ 32

/-- R42: the reset value of every piece of the block's state. -/
def Obligations.ResetValues : Prop :=
  State.reset.frame = 0x0000#16 ∧ State.reset.train = trainOf Config.cfg 0x0000#16 ∧
  State.reset.tlmTemp = 0x00#8 ∧ State.reset.tlmVolt = 0x0000#16 ∧ State.reset.tlmCurr = 0x0000#16 ∧
  State.reset.tlmCons = 0x0000#16 ∧ State.reset.tlmErpm = 0x0000#16 ∧
  statusWord State.reset = 0x00000000#32 ∧ State.reset.tlmLast = .none ∧ State.reset.tlmValid = false ∧
  State.reset.reqIllegal = false ∧ State.reset.rxq = [] ∧ State.reset.genBusy = false

/-- R210, R211: a reset in any state, while a train is played too, sets all of R42 in one step and keeps the output history, and the
host's next request is then accepted at once. That the host's list and its reads stay is the model's (log entry 7). -/
def Obligations.ResetTurnRestoresBlock : Prop :=
  ∀ (s : State) (ts : List Turn), s.sched = .rst :: ts →
    step s = .next { State.reset with sent := s.sent, reads := s.reads, reqs := s.reqs, sched := ts } ∧
    ∀ (w : Word) (ws : List Word) (us : List Turn) (i : Instr),
      s.reqs = w :: ws → ts = .host :: us → decode w = .ok i →
      runSteps 2 s = exec i { State.reset with sent := s.sent, reads := s.reads, reqs := ws, sched := us }

/-! ## Encoding -/

/-- R76, R80, R83: words written out from the spec's encodings, one or more of every row, and illegal ones. -/
def Obligations.WrittenWordsDecode : Prop :=
  decode 0x00000000#32 = .ok .nop ∧
  decode 0x1001FFFF#32 = .ok (.encThr 0xFFFF#16 true) ∧
  decode 0x10012000#32 = .ok (.encThr 0x2000#16 true) ∧
  decode 0x200107FF#32 = .ok (.encCmd 2047#11 true) ∧
  decode 0x2000002F#32 = .ok (.encCmd 47#11 false) ∧
  decode 0x30000000#32 = .ok .genTrain ∧ decode 0x40000000#32 = .ok .send ∧ decode 0x50000000#32 = .ok .tlmDecode ∧
  decode 0x00000001#32 = .error .operandBits ∧ decode 0x10020000#32 = .error .reservedBits ∧
  decode 0x20000800#32 = .error .codeTooWide ∧ decode 0x30010000#32 = .error .operandBits ∧
  decode 0x60000000#32 = .error .reservedOp ∧ decode 0xF0000000#32 = .error .reservedOp

/-- R76, R83: every request, with every operand, is read back from its word. -/
def Obligations.DecodeOfEncode : Prop := ∀ i : Instr, decode (encode i) = .ok i

/-- R76, R80: a legal word is the one word of the request it decodes to, so no two words stand for one request. -/
def Obligations.EncodeOfDecode : Prop := ∀ (w : Word) (i : Instr), decode w = .ok i → encode i = w

/-- R80: the illegal words, and what every other word decodes to. -/
def Obligations.DecodeIsRuleR80 : Prop :=
  ∀ w : Word,
    ((∃ e, decode w = .error e) ↔
      (6 ≤ (w.extractLsb' 28 4).toNat ∨
       ((w.extractLsb' 28 4 = 1#4 ∨ w.extractLsb' 28 4 = 2#4) ∧ w.extractLsb' 17 11 ≠ 0#11) ∨
       (w.extractLsb' 28 4 = 2#4 ∧ w.extractLsb' 11 5 ≠ 0#5) ∨
       ((w.extractLsb' 28 4 = 0#4 ∨ w.extractLsb' 28 4 = 3#4 ∨ w.extractLsb' 28 4 = 4#4 ∨ w.extractLsb' 28 4 = 5#4) ∧
         w.extractLsb' 0 28 ≠ 0#28))) ∧
    (w.extractLsb' 28 4 = 0#4 → w.extractLsb' 0 28 = 0#28 → decode w = .ok .nop) ∧
    (w.extractLsb' 28 4 = 1#4 → w.extractLsb' 17 11 = 0#11 →
      decode w = .ok (.encThr (w.extractLsb' 0 16) (w.getLsbD 16))) ∧
    (w.extractLsb' 28 4 = 2#4 → w.extractLsb' 17 11 = 0#11 → w.extractLsb' 11 5 = 0#5 →
      decode w = .ok (.encCmd (w.extractLsb' 0 11) (w.getLsbD 16))) ∧
    (w.extractLsb' 28 4 = 3#4 → w.extractLsb' 0 28 = 0#28 → decode w = .ok .genTrain) ∧
    (w.extractLsb' 28 4 = 4#4 → w.extractLsb' 0 28 = 0#28 → decode w = .ok .send) ∧
    (w.extractLsb' 28 4 = 5#4 → w.extractLsb' 0 28 = 0#28 → decode w = .ok .tlmDecode)

/-- R76 against spec/opcode_table.json: a word is one of a row's words exactly when it decodes to that row's request. -/
def Obligations.DecodeAgreesWithTable : Prop :=
  ∀ w : Word, ∀ r ∈ opcodeTable, r.covers w = true ↔ ∃ i, decode w = .ok i ∧ i.mnemonic = r.mnemonic

/-- R75, R76, R79: a word is legal exactly when its fields are well-formed, and a word is its fields. -/
def Obligations.LegalWordsAreWellFormed : Prop :=
  ∀ w : Word, ((∃ i, decode w = .ok i) ↔ (fieldsOf w).wf = true) ∧ (fieldsOf w).word = w

/-- R83: the word of every statement the assembler accepts, and the statements it refuses. -/
def Obligations.AssemblerWords : Prop :=
  assemble .nop = some 0x00000000#32 ∧
  (∀ (imm : BitVec 16) (t : Bool), assemble (.encThr (.hex imm) t) =
    some (0x10000000#32 ||| ((BitVec.ofBool t).setWidth 32 <<< 16) ||| imm.setWidth 32)) ∧
  (∀ (k : Int) (t : Bool), -32768 ≤ k → k ≤ 32767 → assemble (.encThr (.dec ((k : Rat) / 16384)) t) =
    some (0x10000000#32 ||| ((BitVec.ofBool t).setWidth 32 <<< 16) ||| (BitVec.ofInt 16 k).setWidth 32)) ∧
  (∀ (r : Rat) (t : Bool), (∀ k : Int, -32768 ≤ k → k ≤ 32767 → r * 16384 ≠ k) →
    assemble (.encThr (.dec r) t) = none) ∧
  (∀ (code : Nat) (t : Bool), code ≤ 2047 → assemble (.encCmd code t) =
    some (0x20000000#32 ||| ((BitVec.ofBool t).setWidth 32 <<< 16) ||| BitVec.ofNat 32 code)) ∧
  (∀ (code : Nat) (t : Bool), 2047 < code → assemble (.encCmd code t) = none) ∧
  assemble .genTrain = some 0x30000000#32 ∧ assemble .send = some 0x40000000#32 ∧
  assemble .tlmDecode = some 0x50000000#32 ∧ ∀ w : Word, assemble (.word w) = some w

/-- R84: the requests of every pseudo-request, in order, and the wait that ends TLM_ENABLE. -/
def Obligations.PseudoRequestWords : Prop :=
  ∀ c : Cfg,
    (∀ (thr : ThrArg) (t : Bool), expand c (.txThr thr t) = [.issue (.encThr thr t), .issue .genTrain, .issue .send]) ∧
    (∀ (code : Nat) (t : Bool), expand c (.txCmd code t) = [.issue (.encCmd code t), .issue .genTrain, .issue .send]) ∧
    expand c .disarm = expand c (.txCmd 0 false) ∧
    (∀ n : Nat, actWords (expand c (.arm n)) =
      some (List.replicate n [0x20000000#32, 0x30000000#32, 0x40000000#32]).flatten) ∧
    actWords (expand c .tlmEnable) =
      some (c.tlmEnSeq.flatMap fun k =>
        (List.replicate c.tlmEnReps [encode (.encCmd k c.tlmEnTBit), 0x30000000#32, 0x40000000#32]).flatten) ∧
    (expand c .tlmEnable).getLast? = some (.wait c.tlmEnSettle)

/-! ## The frame encoder -/

/-- R100: both forms of the checksum, bit by bit and masked. -/
def Obligations.ChecksumIsNibbleXor : Prop :=
  ∀ v : BitVec 12,
    (∀ j < 4, (checksum v).getLsbD j = ((v.getLsbD (8 + j) ^^ v.getLsbD (4 + j)) ^^ v.getLsbD j)) ∧
    (checksum v).setWidth 12 = checksumMasked v

/-- R70, R101: the fields of MakeFrame(p, t), and the frame as a number. -/
def Obligations.FrameLayout : Prop :=
  ∀ (p : Payload) (t : Bool),
    framePayload (makeFrame p t) = p ∧ frameTreq (makeFrame p t) = t ∧
    (makeFrame p t).extractLsb' 0 4 = checksum (upper12 p t) ∧ (upper12 p t).toNat = 2 * p.toNat + t.toNat ∧
    (makeFrame p t).toNat = 16 * (2 * p.toNat + t.toNat) + (checksum (upper12 p t)).toNat

/-- R106: a built frame is consistent, and flipping any one bit of a consistent frame's checksum nibble is detected. -/
def Obligations.ChecksumFlipDetected : Prop :=
  (∀ f : Frame, frameOK f = true ↔ f.extractLsb' 0 4 = checksum (f.extractLsb' 4 12)) ∧
  (∀ (p : Payload) (t : Bool), frameOK (makeFrame p t) = true) ∧
  ∀ (f : Frame) (j : Nat), frameOK f = true → j < 4 → frameOK (f ^^^ (1#16 <<< j)) = false

/-- R8: Round picks a nearest integer, and ROUND_MODE settles the exact halves. -/
def Obligations.RoundIsNearest : Prop :=
  ∀ (m : RoundMode) (x : Rat), 0 ≤ x →
    |x - (roundRat m x : Rat)| < 1 / 2 ∨
    (|x - (roundRat m x : Rat)| = 1 / 2 ∧ (m = .halfEven → roundRat m x % 2 = 0) ∧
      (m = .halfUp → x < (roundRat m x : Rat)))

/-- R77, R102: the payload ENC_THR computes on its port is ThrottlePayload of the exact rational thr / 16384. -/
def Obligations.PortPayloadIsExact : Prop :=
  ∀ (m : RoundMode) (imm : BitVec 16),
    (throttlePayload m (thrOperand imm)).toNat = throttlePayloadRat m (throttleValue imm)

/-- R108: payload 47 and the low throttle band, for an exact throttle and on the port. -/
def Obligations.LowBandGivesPayload47 : Prop :=
  (∀ (m : RoundMode) (v : Rat), throttlePayloadRat m v = 47 ↔
    0 < v ∧ (v < 1 / 4000 ∨ (v = 1 / 4000 ∧ m = .halfEven))) ∧
  ∀ (m : RoundMode) (imm : BitVec 16),
    (throttlePayload m (thrOperand imm)).toNat = 47 ↔ 1 ≤ thrOperand imm ∧ thrOperand imm ≤ 4

/-- R102, R104: the range of the payload, and its two ends. -/
def Obligations.PayloadRange : Prop :=
  ∀ (m : RoundMode) (imm : BitVec 16),
    ((throttlePayload m (thrOperand imm)).toNat = 0 ↔ thrOperand imm ≤ 0) ∧
    (0 < thrOperand imm → 47 ≤ (throttlePayload m (thrOperand imm)).toNat ∧
      (throttlePayload m (thrOperand imm)).toNat ≤ 2047) ∧
    (0x4000 ≤ thrOperand imm → (throttlePayload m (thrOperand imm)).toNat = 2047) ∧
    (thrOperand imm = 5 → (throttlePayload m (thrOperand imm)).toNat = 48)

/-- R107: more throttle never gives a smaller payload. -/
def Obligations.PayloadMonotone : Prop :=
  ∀ (m : RoundMode) (a b : BitVec 16), thrOperand a ≤ thrOperand b →
    (throttlePayload m (thrOperand a)).toNat ≤ (throttlePayload m (thrOperand b)).toNat

/-- R107: thr in 5..16384 gives payloads 48..2047, and each of them is reached. -/
def Obligations.EveryThrottlePayloadReached : Prop :=
  ∀ m : RoundMode,
    (∀ imm : BitVec 16, 5 ≤ thrOperand imm → thrOperand imm ≤ 16384 →
      48 ≤ (throttlePayload m (thrOperand imm)).toNat ∧ (throttlePayload m (thrOperand imm)).toNat ≤ 2047) ∧
    ∀ p : Payload, 48 ≤ p.toNat →
      ∃ imm : BitVec 16, 5 ≤ thrOperand imm ∧ thrOperand imm ≤ 16384 ∧ throttlePayload m (thrOperand imm) = p

/-- R104, R8: the two rounding modes part exactly at the ties thr mod 1024 = 512 whose lower neighbour is even. -/
def Obligations.RoundModesPartAtTies : Prop :=
  ∀ imm : BitVec 16, 1 ≤ thrOperand imm → thrOperand imm ≤ 16384 →
    (throttlePayload .halfUp (thrOperand imm) ≠ throttlePayload .halfEven (thrOperand imm) ↔
      thrOperand imm % 1024 = 512 ∧ (thrOperand imm * 125 / 1024) % 2 = 0)

/-- R103: NOP, its one word, and its whole effect. -/
def Obligations.NopResult : Prop :=
  (∀ w : Word, decode w = .ok .nop ↔ w = 0x00000000#32) ∧
  ∀ s : State, exec .nop s = .next { s with reqIllegal := false }

/-- R104, R102: ENC_THR builds the frame of its clamped, exactly rounded throttle, and changes nothing else. -/
def Obligations.EncThrResult : Prop :=
  ∀ (thr : BitVec 16) (t : Bool) (s : State), exec (.encThr thr t) s =
    .next { s with
      frame := makeFrame (BitVec.ofNat 11 (throttlePayloadRat Config.cfg.roundMode (throttleValue thr))) t
      reqIllegal := false }

/-- R105: ENC_CMD frames any code 0..2047 as it stands, and changes nothing else. -/
def Obligations.EncCmdResult : Prop :=
  (∀ (code : Payload) (t : Bool) (s : State),
    exec (.encCmd code t) s = .next { s with frame := makeFrame code t, reqIllegal := false }) ∧
  ∀ s : State, exec (.encCmd 0#11 true) s = .next { s with frame := 0x0011#16, reqIllegal := false }

/-- R82, R105: for every payload 48..2047 some throttle leaves what the command of that code leaves, and so does throttle 0 for
command 0; no throttle gives the frame of a command 1..46. -/
def Obligations.CommandAndThrottleFramesMeet : Prop :=
  (∀ p : Payload, 48 ≤ p.toNat → ∃ thr : BitVec 16, ∀ (t : Bool) (s : State),
    exec (.encThr thr t) s = exec (.encCmd p t) s) ∧
  (∀ (t : Bool) (s : State), exec (.encThr 0#16 t) s = exec (.encCmd 0#11 t) s) ∧
  ∀ (p : Payload) (thr : BitVec 16) (t u : Bool) (s : State), 1 ≤ p.toNat → p.toNat ≤ 46 →
    exec (.encThr thr t) s ≠ exec (.encCmd p u) s

/-! ## The pulse-train timer -/

/-- R130, R72: the 32 entries of Train(f) in ticks, for every well-formed configuration and every frame. -/
def Obligations.TrainEntries : Prop :=
  ∀ (c : Cfg) (f : Frame), c.wf = true → ∀ (i : Nat) (hi : i < 16),
    ((trainOf c f)[2 * i]).toNat = (if f.getLsbD (15 - i) then c.t1h else c.t0h) ∧
    ((trainOf c f)[2 * i + 1]).toNat =
      c.tBit - (if f.getLsbD (15 - i) then c.t1h else c.t0h) + (if i = 15 then c.tPause else 0)

/-- R131: every entry is at least one tick and is stored untruncated, and every pair but the last sums to T_BIT. R131's 'largest
possible entry' is not claimed of the high times (log entry 2). -/
def Obligations.TrainPairsSumToBitPeriod : Prop :=
  ∀ (c : Cfg) (f : Frame), c.wf = true →
    (∀ (k : Nat) (hk : k < 32), 1 ≤ ((trainOf c f)[k]).toNat ∧ ((trainOf c f)[k]).toNat = duration c f k) ∧
    ∀ (i : Nat) (hi : i < 15), ((trainOf c f)[2 * i]).toNat + ((trainOf c f)[2 * i + 1]).toNat = c.tBit

/-- R136: the entries of any train sum to 16 × T_BIT + T_PAUSE, whatever the frame. -/
def Obligations.TransmissionTicks : Prop :=
  ∀ (c : Cfg) (f : Frame), c.wf = true → transmissionTicks (trainOf c f) = 16 * c.tBit + c.tPause

/-- R138: the last entry exceeds the low time of its bit value by exactly T_PAUSE. -/
def Obligations.LastEntryHasThePause : Prop :=
  ∀ (c : Cfg) (f : Frame), c.wf = true →
    ((trainOf c f)[31]).toNat - c.tPause = c.tBit - ((trainOf c f)[30]).toNat ∧
    c.tPause ≤ ((trainOf c f)[31]).toNat ∧
    ∀ (g : Frame) (i : Nat) (hi : i < 15), g.getLsbD (15 - i) = f.getLsbD 0 →
      ((trainOf c f)[31]).toNat = ((trainOf c g)[2 * i + 1]).toNat + c.tPause

/-- R132, R72: the high times, in index order, carry the frame most significant bit first: it can be read back from its train. -/
def Obligations.TrainCarriesFrame : Prop :=
  ∀ (c : Cfg) (f : Frame), c.wf = true → frameOfTrain c (trainOf c f) = f

/-- R135, R132, R136, R137: the level of the line at every tick of a train: for each frame bit, most significant first, T_BIT ticks of
which the first T1H or T0H are high and the rest low, then T_PAUSE low ticks, and nothing more; so it starts with a rising edge from
the idle level and ends at the idle level. What a reset leaves of it after n ticks is its first n ticks (R210); that the cut-off is
counted in whole ticks and recorded nowhere is the model's (log entry 12). -/
def Obligations.LineShowsTrain : Prop :=
  ∀ (c : Cfg) (f : Frame), c.wf = true →
    (lineTicks (trainOf c f)).length = 16 * c.tBit + c.tPause ∧
    (∀ i < 16, ∀ j < c.tBit, (lineTicks (trainOf c f))[i * c.tBit + j]? =
      some (decide (j < (if f.getLsbD (15 - i) then c.t1h else c.t0h)))) ∧
    (∀ j < c.tPause, (lineTicks (trainOf c f))[16 * c.tBit + j]? = some false) ∧
    (lineTicks (trainOf c f)).head? = some (!idleLevel) ∧
    (lineTicks (trainOf c f)).getLast? = some idleLevel ∧
    ∀ n, lineUntilReset (trainOf c f) n <+: lineTicks (trainOf c f) ∧
      (lineUntilReset (trainOf c f) n).length = min n (16 * c.tBit + c.tPause)

/-- R133: GEN_TRAIN, its one word, and its whole effect; a second one writes the same train. -/
def Obligations.GenTrainResult : Prop :=
  (∀ w : Word, decode w = .ok .genTrain ↔ w = 0x30000000#32) ∧
  ∀ s : State,
    exec .genTrain s = .next { s with train := trainOf Config.cfg s.frame, reqIllegal := false } ∧
    ∀ t, exec .genTrain s = .next t → exec .genTrain t = .next t

/-- R134, R10: SEND hands TRAIN over as it stands, records it, and leaves GEN_BUSY = 1. -/
def Obligations.SendResult : Prop :=
  (∀ w : Word, decode w = .ok .send ↔ w = 0x40000000#32) ∧
  ∀ s : State, exec .send s =
    .next { s with genBusy := true, sent := s.sent ++ [s.train], reqIllegal := false }

/-- R223: SEND after ENC_THR or ENC_CMD sends the old train; with GEN_TRAIN between them it sends the new frame's. -/
def Obligations.StaleTrainWithoutGenTrain : Prop :=
  ∀ (i : Instr) (s a b : State), (∃ thr t, i = .encThr thr t) ∨ (∃ code t, i = .encCmd code t) → exec i s = .next a →
    (exec .send a = .next b → b.sent = s.sent ++ [s.train]) ∧
    (∀ g, exec .genTrain a = .next g → exec .send g = .next b → b.sent = s.sent ++ [trainOf Config.cfg a.frame])

/-- R84, R61: three host turns carry out TX_THR, from any state whose block is ready: the throttle's frame is built, turned into a
train and sent, and nothing else of the block changes. -/
def Obligations.TransmitThrottleSequence : Prop :=
  ∀ (s : State) (thr : BitVec 16) (t : Bool) (ws ws' : List Word) (ts : List Turn),
    actWords (expand Config.cfg (.txThr (.hex thr) t)) = some ws → s.genBusy = false → s.reqs = ws ++ ws' →
    s.sched = .host :: .host :: .host :: ts →
    let f := makeFrame (BitVec.ofNat 11 (throttlePayloadRat Config.cfg.roundMode (throttleValue thr))) t
    runSteps 3 s = .next { s with
      frame := f
      train := trainOf Config.cfg f
      sent := s.sent ++ [trainOf Config.cfg f]
      genBusy := true
      reqIllegal := false
      reqs := ws'
      sched := ts }

/-! ## The telemetry parser -/

/-- R151, R156: fewer than 10 bytes: SHORT, the bytes discarded or kept as the configuration says, and nothing else changes. -/
def Obligations.TlmShortRead : Prop :=
  ∀ s : State, s.rxq.length < 10 → exec .tlmDecode s =
    .next { s with
      rxq := if Config.cfg.shortReadDrains then [] else s.rxq
      tlmLast := .short
      reqIllegal := false }

/-- R150, R152 to R155: with a matching checksum byte the newest 10 bytes are latched, big-endian, whatever older bytes wait, and
the FIFO is emptied. -/
def Obligations.TlmAcceptsNewestFrame : Prop :=
  ∀ (s : State) (old : List Byte) (b0 b1 b2 b3 b4 b5 b6 b7 b8 b9 : Byte),
    s.rxq = old ++ [b0, b1, b2, b3, b4, b5, b6, b7, b8, b9] →
    Config.cfg.tlmCheck #v[b0, b1, b2, b3, b4, b5, b6, b7, b8] = b9 →
    exec .tlmDecode s = .next { s with
      rxq := []
      tlmTemp := b0
      tlmVolt := BitVec.ofNat 16 (b1.toNat * 256 + b2.toNat)
      tlmCurr := BitVec.ofNat 16 (b3.toNat * 256 + b4.toNat)
      tlmCons := BitVec.ofNat 16 (b5.toNat * 256 + b6.toNat)
      tlmErpm := BitVec.ofNat 16 (b7.toNat * 256 + b8.toNat)
      tlmValid := true
      tlmLast := .ok
      reqIllegal := false }

/-- R153, R156: with another checksum byte the frame is rejected with BADSUM; the FIFO is emptied and the last accepted values stay. -/
def Obligations.TlmRejectsBadChecksum : Prop :=
  ∀ (s : State) (old : List Byte) (b0 b1 b2 b3 b4 b5 b6 b7 b8 b9 : Byte),
    s.rxq = old ++ [b0, b1, b2, b3, b4, b5, b6, b7, b8, b9] →
    Config.cfg.tlmCheck #v[b0, b1, b2, b3, b4, b5, b6, b7, b8] ≠ b9 →
    exec .tlmDecode s = .next { s with rxq := [], tlmLast := .badsum, reqIllegal := false }

/-- R161: a frame accepted with one checksum byte is rejected with any other, whatever the check function is. -/
def Obligations.ChecksumByteFlipRejected : Prop :=
  ∀ (s t : State) (q : List Byte) (b b' : Byte), 9 ≤ q.length → s.rxq = q ++ [b] → b' ≠ b →
    exec .tlmDecode s = .next t → t.tlmLast = .ok →
    exec .tlmDecode { s with rxq := q ++ [b'] } =
      .next { s with rxq := [], tlmLast := .badsum, reqIllegal := false }

/-- R57: a decode consumes the bytes it reads, so a second one with no push between them reports SHORT, unless short bytes stay. -/
def Obligations.SecondDecodeIsShort : Prop :=
  ∀ s t u : State, 10 ≤ s.rxq.length ∨ Config.cfg.shortReadDrains = true →
    exec .tlmDecode s = .next t → exec .tlmDecode t = .next u →
    t.rxq = [] ∧ u = { t with tlmLast := .short, reqIllegal := false }

/-- R36: a push below RX_DEPTH is appended; into a full FIFO the push loses the new or the oldest byte, as the turn says. That the choice
stands in the turn is the model's (DESIGN CHOICE, log entry 5), and so is that a FIFO longer than RX_DEPTH, which no run reaches,
counts as full (DESIGN CHOICE, log entry 17). -/
def Obligations.RxPushOutcomes : Prop :=
  ∀ (s : State) (b : Byte) (loss : Loss) (ts : List Turn), s.sched = .rx b loss :: ts →
    (s.rxq.length < Config.cfg.rxDepth → step s = .next { s with rxq := s.rxq ++ [b], sched := ts }) ∧
    (Config.cfg.rxDepth ≤ s.rxq.length → loss = .newest → step s = .next { s with sched := ts }) ∧
    (Config.cfg.rxDepth ≤ s.rxq.length → loss = .oldest →
      step s = .next { s with rxq := s.rxq.drop 1 ++ [b], sched := ts })

/-- R62, R67: bytes pushed into a FIFO with room wait in arrival order; on overflow bytes are missing and the order stays.
The losses stand in the turns (DESIGN CHOICE, log entry 5). -/
def Obligations.BytesArriveInOrder : Prop :=
  ∀ (s : State) (bs : List (Byte × Loss)) (ts : List Turn), s.sched = bs.map (fun p => Turn.rx p.1 p.2) ++ ts →
    (s.rxq.length + bs.length ≤ Config.cfg.rxDepth →
      runSteps bs.length s = .next { s with rxq := s.rxq ++ bs.map (·.1), sched := ts }) ∧
    ∃ q, runSteps bs.length s = .next { s with rxq := q, sched := ts } ∧ q.Sublist (s.rxq ++ bs.map (·.1))

/-- R160: the check value of CRC8_07, and its value on the frames of 95_test_vectors.md. -/
def Obligations.CrcCheckValues : Prop :=
  crc807 #v[0x31#8, 0x32#8, 0x33#8, 0x34#8, 0x35#8, 0x36#8, 0x37#8, 0x38#8, 0x39#8] = 0xF4#8 ∧
  crc807 #v[0x19#8, 0x05#8, 0xDC#8, 0x00#8, 0x00#8, 0x00#8, 0x00#8, 0x01#8, 0x90#8] = 0x0D#8 ∧
  crc807 #v[0x1E#8, 0x06#8, 0x40#8, 0x00#8, 0x7B#8, 0x00#8, 0x0C#8, 0x00#8, 0x64#8] = 0x9A#8

/-- R162 to R167: the exact physical values of the latched registers. -/
def Obligations.ReadoutUnits : Prop :=
  (∀ s : State,
    temperatureC s = s.tlmTemp.toNat ∧ temperatureC s ≤ 255 ∧
    voltageV s * 100 = s.tlmVolt.toNat ∧ 0 ≤ voltageV s ∧ voltageV s ≤ 65535 / 100 ∧
    currentA s * 100 = s.tlmCurr.toNat ∧ 0 ≤ currentA s ∧ currentA s ≤ 65535 / 100 ∧
    consumptionMAh s = s.tlmCons.toNat ∧ consumptionMAh s ≤ 65535 ∧
    electricalRPM s = s.tlmErpm.toNat * 100 ∧ electricalRPM s ≤ 6553500) ∧
  ∀ (c : Cfg) (s : State), c.wf = true →
    mechanicalRPM c s = (s.tlmErpm.toNat : Rat) * 200 / c.motorPoles ∧
    mechanicalRPM c s * ((c.motorPoles / 2 : Nat) : Rat) = electricalRPM s ∧ (c.motorPoles / 2 : Nat) ≠ 0

/-! ## Registers -/

/-- R38, R31, R32: the word of every register index, with the fields of STATUS; a configuration with entries wider than a word is
refused. -/
def Obligations.RegisterMap : Prop :=
  (∀ s : State,
    (regRead s 0#6).extractLsb' 0 2 =
      (match s.tlmLast with | .none => 0#2 | .ok => 1#2 | .short => 2#2 | .badsum => 3#2) ∧
    (regRead s 0#6).getLsbD 2 = s.tlmValid ∧ (regRead s 0#6).getLsbD 3 = s.reqIllegal ∧
    (regRead s 0#6).extractLsb' 4 28 = 0#28 ∧
    (regRead s 1#6).toNat = s.frame.toNat ∧ (regRead s 2#6).toNat = s.tlmTemp.toNat ∧
    (regRead s 3#6).toNat = s.tlmVolt.toNat ∧ (regRead s 4#6).toNat = s.tlmCurr.toNat ∧
    (regRead s 5#6).toNat = s.tlmCons.toNat ∧ (regRead s 6#6).toNat = s.tlmErpm.toNat ∧
    regRead s 7#6 = 0#32 ∧
    (∀ (i : Nat) (hi : i < 32), (regRead s (BitVec.ofNat 6 (8 + i))).toNat = (s.train[i]).toNat) ∧
    ∀ k : RegIndex, 40 ≤ k.toNat → regRead s k = 0#32) ∧
  ∀ c : Cfg, 32 < c.durW → c.accept = none

/-- R39: a host read returns the word of its index at any step, busy or not, and changes nothing of the block. That the model notes
what the host has read is its own (log entry 9). -/
def Obligations.HostReadHasNoEffect : Prop :=
  ∀ (s : State) (k : RegIndex) (ts : List Turn), s.sched = .read k :: ts →
    step s = .next { s with reads := s.reads ++ [(k, regRead s k)], sched := ts }

/-! ## The step -/

/-- R41, R10: a host turn of a ready block takes the first request of the host's list, and the step is exec of the decoded request;
withFetchWord places a table word there. -/
def Obligations.StepRunsDecodedRequest : Prop :=
  (∀ (s : State) (w : Word) (ws : List Word) (ts : List Turn) (i : Instr),
    s.sched = .host :: ts → s.reqs = w :: ws → s.genBusy = false → decode w = .ok i →
    step s = exec i { s with reqs := ws, sched := ts }) ∧
  ∀ (s : State) (nbits w : Nat) (i : Instr), decodeTableWord nbits w = some i →
    step (s.withFetchWord nbits w) = exec i { s with genBusy := false }

/-- R182, R183, R81: a ready block accepts an illegal word too; it sets REQ_ILLEGAL and changes nothing else, and the next legal
request clears REQ_ILLEGAL. -/
def Obligations.IllegalRequestOnlySetsFlag : Prop :=
  ∀ (s : State) (w : Word) (ws : List Word) (ts : List Turn) (e : Illegal),
    s.sched = .host :: ts → s.reqs = w :: ws → s.genBusy = false → decode w = .error e →
    step s = .next { s with reqIllegal := true, reqs := ws, sched := ts } ∧
    ∀ (w' : Word) (ws' : List Word) (ts' : List Turn) (i : Instr),
      ts = .host :: ts' → ws = w' :: ws' → decode w' = .ok i →
      ∃ u, runSteps 2 s = .next u ∧ u.reqs = ws' ∧ u.reqIllegal = false

/-- R34: every accepted request writes REQ_ILLEGAL: 1 if its word is illegal, 0 if it is legal. -/
def Obligations.EveryRequestWritesIllegalFlag : Prop :=
  ∀ (s : State) (w : Word) (ws : List Word) (ts : List Turn),
    s.sched = .host :: ts → s.reqs = w :: ws → s.genBusy = false →
    ∃ t, step s = .next t ∧ t.reqs = ws ∧ (t.reqIllegal = true ↔ (fieldsOf w).wf = false)

/-- R41, R222: a host turn of a busy block, or with no request, changes nothing. train_done frees the block. That the request then
goes on waiting in the host's list is the model's choice (DESIGN CHOICE, log entry 3), and so is that a completion while GEN_BUSY is
0 changes nothing (DESIGN CHOICE, log entry 6). -/
def Obligations.BusyBlockTakesNoRequest : Prop :=
  ∀ (s : State) (ts : List Turn),
    (s.sched = .host :: ts → s.genBusy = true ∨ s.reqs = [] → step s = .next { s with sched := ts }) ∧
    (s.sched = .done :: ts → step s = .next { s with genBusy := false, sched := ts })

/-- R135, R134: with no completion and no reset to come, a busy block waits for ever: no request is taken, nothing is sent, and no
register changes. That the host's list is the same all along, no request being withdrawn, is the model's choice (DESIGN CHOICE, log
entry 3). -/
def Obligations.BusyBlockWaitsForDone : Prop :=
  ∀ (n : Nat) (s : State), s.genBusy = true → Turn.done ∉ s.sched → Turn.rst ∉ s.sched →
    ∃ u, runSteps n s = .next u ∧ u.genBusy = true ∧ u.reqs = s.reqs ∧ u.sent = s.sent ∧
      ∀ k, regRead u k = regRead s k

/-- R180, R195: no step faults, stops or is refused, in any state (DEDUCED, log entry 11). -/
def Obligations.EveryStepGoesOn : Prop :=
  (∀ s : State, ∃ t, step s = .next t) ∧ ∀ (i : Instr) (s : State), ∃ t, exec i s = .next t

/-- R43: which request writes which state, the completion of a SEND and an illegal request too; anything not listed for it is
unchanged. That a completion while GEN_BUSY is 0 changes nothing is the model's choice (DESIGN CHOICE, log entry 6). -/
def Obligations.RequestsWriteOnlyTheirState : Prop :=
  (∀ (i : Instr) (s t : State), exec i s = .next t →
    match i with
    | .nop => t = { s with reqIllegal := false }
    | .encThr _ _ => t = { s with frame := t.frame, reqIllegal := false }
    | .encCmd _ _ => t = { s with frame := t.frame, reqIllegal := false }
    | .genTrain => t = { s with train := t.train, reqIllegal := false }
    | .send => t = { s with genBusy := true, sent := t.sent, reqIllegal := false }
    | .tlmDecode =>
      (t.tlmLast = .ok ∧ t = { s with
        rxq := []
        tlmTemp := t.tlmTemp
        tlmVolt := t.tlmVolt
        tlmCurr := t.tlmCurr
        tlmCons := t.tlmCons
        tlmErpm := t.tlmErpm
        tlmValid := true
        tlmLast := .ok
        reqIllegal := false }) ∨
      (t.tlmLast = .badsum ∧ t = { s with rxq := [], tlmLast := .badsum, reqIllegal := false }) ∨
      (t.tlmLast = .short ∧ (t.rxq = [] ∨ (Config.cfg.shortReadDrains = false ∧ t.rxq = s.rxq)) ∧
        t = { s with rxq := t.rxq, tlmLast := .short, reqIllegal := false })) ∧
  (∀ s : State, takeTurn .done s = .next { s with genBusy := false }) ∧
  ∀ (w : Word) (s : State) (e : Illegal), decode w = .error e → perform w s = .next { s with reqIllegal := true }

/-- R24 to R30, R33: a register changes only in an accepted request that writes it, or in a reset. -/
def Obligations.RegistersHaveOneWriter : Prop :=
  ∀ s t : State, step s = .next t → s.sched.head? ≠ some .rst →
    (t.frame ≠ s.frame → s.sched.head? = some .host ∧ s.genBusy = false ∧ ∃ w i, s.reqs.head? = some w ∧
      decode w = .ok i ∧ ((∃ thr b, i = .encThr thr b) ∨ ∃ code b, i = .encCmd code b)) ∧
    (t.train ≠ s.train → s.sched.head? = some .host ∧ s.genBusy = false ∧ ∃ w, s.reqs.head? = some w ∧
      decode w = .ok .genTrain) ∧
    (t.tlmTemp ≠ s.tlmTemp ∨ t.tlmVolt ≠ s.tlmVolt ∨ t.tlmCurr ≠ s.tlmCurr ∨ t.tlmCons ≠ s.tlmCons ∨
        t.tlmErpm ≠ s.tlmErpm ∨ t.tlmValid ≠ s.tlmValid →
      s.sched.head? = some .host ∧ s.genBusy = false ∧ (∃ w, s.reqs.head? = some w ∧ decode w = .ok .tlmDecode) ∧
      10 ≤ s.rxq.length ∧ t.tlmLast = .ok ∧ t.tlmValid = true)

/-- R33, R212: over any number of steps without a reset, TLM_VALID stays 1 once it is, and TLM_LAST does not return to NONE. -/
def Obligations.OnlyResetClearsTlmValid : Prop :=
  ∀ (n : Nat) (s : State), Turn.rst ∉ s.sched → ∃ u, runSteps n s = .next u ∧
    (s.tlmValid = true → u.tlmValid = true) ∧ (s.tlmLast ≠ .none → u.tlmLast ≠ .none)

/-! ## The whole machine -/

/-- R42, R25, R33: the invariant holds right after reset. -/
def Obligations.InvHoldsAtReset : Prop := Inv State.reset

/-- R25, R33, R35, R41, R133: every step keeps the invariant: FRAME stays consistent, TRAIN and every train sent were built from a
consistent frame, RXQ stays within RX_DEPTH, the telemetry registers and flags agree, and while the generator plays TRAIN is the
train it plays. -/
def Obligations.InvKeptByEveryStep : Prop := ∀ s t : State, Inv s → step s = .next t → Inv t

/-- R195, R181: telemetry never changes what is sent. Two machines that agree on the encoder side, and whose schedules agree but for
the bytes pushed and the registers read, agree on it after their schedules have run: on the frame, the train, and every train sent. -/
def Obligations.TelemetryNeverAltersEncoder : Prop :=
  ∀ s s' : State, SameEncoder s s' → encoderTurns s.sched = encoderTurns s'.sched →
    ∃ u u', runSteps s.sched.length s = .next u ∧ runSteps s'.sched.length s' = .next u' ∧ SameEncoder u u'

/-- R43, R150, R156: what is encoded and sent never changes the telemetry. Two machines that agree on the telemetry side, the
requests, the schedule and GEN_BUSY agree on it after any number of steps, whatever FRAME, TRAIN and the history hold. -/
def Obligations.EncoderNeverAltersTelemetry : Prop :=
  ∀ (n : Nat) (s s' : State), SameTelemetry s s' → s.genBusy = s'.genBusy → s.reqs = s'.reqs → s.sched = s'.sched →
    ∃ u u', runSteps n s = .next u ∧ runSteps n s' = .next u' ∧ SameTelemetry u u'

/-- R195, R41, R61: errors never stop transmission. Whatever words the host issues, illegal ones among them, with the generator
completing after each host turn the block takes every one, and exactly the SENDs among them hand over one train each. A completion
after a word that sends nothing changes nothing (DESIGN CHOICE, log entry 6). -/
def Obligations.TransmissionNeverStops : Prop :=
  ∀ (s : State) (ts : List Turn), s.genBusy = false →
    s.sched = (List.replicate s.reqs.length [Turn.host, Turn.done]).flatten ++ ts →
    ∃ u, runSteps (2 * s.reqs.length) s = .next u ∧ u.reqs = [] ∧ u.genBusy = false ∧ u.sched = ts ∧
      s.sent <+: u.sent ∧
      u.sent.length = s.sent.length + s.reqs.countP (fun w => decide (decode w = .ok .send))
end

