-- ==== Sys2Proof/Laws/Config.lean ====
section
/-! SUPPORT. What a well-formed configuration gives (00_scope.md R6). -/

namespace Sys2Proof

namespace Cfg

variable {c : Cfg}

theorem wf_times (h : c.wf = true) : 0 < c.t0h ∧ c.t0h < c.t1h ∧ c.t1h < c.tBit := by
  simp only [wf, timesOrdered, Bool.and_eq_true, decide_eq_true_eq] at h; tauto

theorem wf_pause (h : c.wf = true) : 1 ≤ c.tPause := by
  simp only [wf, pausePositive, Bool.and_eq_true, decide_eq_true_eq] at h; tauto

theorem wf_lowFit (h : c.wf = true) : c.tBit - c.t0h + c.tPause < 2 ^ c.durW := by
  have hp : 0 < 2 ^ c.durW := Nat.two_pow_pos _
  simp only [wf, lowTimesFit, Bool.and_eq_true, decide_eq_true_eq] at h
  omega

theorem wf_highFit (h : c.wf = true) : c.t1h < 2 ^ c.durW := by
  have hp : 0 < 2 ^ c.durW := Nat.two_pow_pos _
  simp only [wf, highTimesFit, Bool.and_eq_true, decide_eq_true_eq] at h
  omega

theorem wf_poles (h : c.wf = true) : c.motorPoles % 2 = 0 ∧ 2 ≤ c.motorPoles := by
  simp only [wf, polesEven, Bool.and_eq_true, decide_eq_true_eq] at h; tauto

theorem wf_depth (h : c.wf = true) : 10 ≤ c.rxDepth := by
  simp only [wf, fifoHoldsFrame, Bool.and_eq_true, decide_eq_true_eq] at h; tauto

theorem wf_durW (h : c.wf = true) : c.durW ≤ 32 := by
  simp only [wf, entryFitsWord, Bool.and_eq_true, decide_eq_true_eq] at h; tauto

end Cfg

namespace Config

theorem ten_le_rxDepth : 10 ≤ cfg.rxDepth := Cfg.wf_depth cfg_wf

theorem durW_le : durW ≤ 32 := Cfg.wf_durW cfg_wf

end Config

end Sys2Proof
end

