-- ==== Sys2Proof/Laws/Decode.lean ====
section
/-! SUPPORT. A request word and its fields: the word as a number, and the fields read back from it. -/

namespace Sys2Proof

/-- R75: a word as a number, from its fields. -/
theorem Fields.word_toNat (f : Fields) :
    f.word.toNat = ((f.op.toNat * 2 ^ 11 + f.rsv.toNat) * 2 + f.t.toNat) * 2 ^ 16 + f.imm.toNat := by
  have h1 := f.rsv.isLt
  have h2 : (BitVec.ofBool f.t).toNat < 2 ^ 1 := (BitVec.ofBool f.t).isLt
  have h3 := f.imm.isLt
  unfold Fields.word
  rw [BitVec.toNat_append, ← Nat.shiftLeft_add_eq_or_of_lt h3, BitVec.toNat_append,
    ← Nat.shiftLeft_add_eq_or_of_lt h2, BitVec.toNat_append, ← Nat.shiftLeft_add_eq_or_of_lt h1]
  simp [Nat.shiftLeft_eq]

/-- R75: no field of a word is lost. -/
theorem fieldsOf_word (f : Fields) : fieldsOf f.word = f := by
  obtain ⟨op, rsv, t, imm⟩ := f
  have h := Fields.word_toNat ⟨op, rsv, t, imm⟩
  have h0 := op.isLt
  have h1 := rsv.isLt
  have h3 := imm.isLt
  have ht := t.toNat_lt
  simp only at h
  simp only [fieldsOf, Fields.mk.injEq]
  refine ⟨?_, ?_, ?_, ?_⟩
  · apply BitVec.eq_of_toNat_eq; simp [BitVec.extractLsb'_toNat, h, Nat.shiftRight_eq_div_pow]; omega
  · apply BitVec.eq_of_toNat_eq; simp [BitVec.extractLsb'_toNat, h, Nat.shiftRight_eq_div_pow]; omega
  · cases t <;> simp [BitVec.getLsbD, Nat.testBit_eq_decide_div_mod_eq, h] <;> omega
  · apply BitVec.eq_of_toNat_eq; simp [BitVec.extractLsb'_toNat, h, Nat.shiftRight_eq_div_pow]; omega

end Sys2Proof
end

