-- ==== Sys2Proof/Laws/Generator.lean ====
section
/-! SUPPORT. The line, tick by tick: a list of chunks read at a place inside one chunk, and the two levels of one pair. -/

namespace Sys2Proof.Machine

/-- In a list of chunks of which those before chunk i have length p, place i * p + j is place j of chunk i. -/
theorem flatten_getElem?_chunk {α : Type} {p i j : Nat} {L : List (List α)} {y : List α}
    (hp : ∀ k < i, ∀ x, L[k]? = some x → x.length = p) (hi : L[i]? = some y) (hj : j < y.length) :
    L.flatten[i * p + j]? = y[j]? := by
  induction i generalizing L with
  | zero =>
    cases L with
    | nil => simp at hi
    | cons x L =>
      simp only [List.getElem?_cons_zero, Option.some.injEq] at hi
      subst hi
      simp [List.getElem?_append_left hj]
  | succ i ih =>
    cases L with
    | nil => simp at hi
    | cons x L =>
      have hx : x.length = p := hp 0 (by omega) x rfl
      have e : (i + 1) * p + j = x.length + (i * p + j) := by rw [hx, Nat.succ_mul]; omega
      rw [List.flatten_cons, e, List.getElem?_append_right (by omega), Nat.add_sub_cancel_left]
      exact ih (fun k hk z hz => hp (k + 1) (by omega) z hz) hi

/-- The ticks of the pair that sends one frame bit. -/
def pairTicks {w : Nat} (t : Vector (BitVec w) 32) (i : Fin 16) : List Bool :=
  List.replicate (t[2 * i.val]).toNat true ++ List.replicate (t[2 * i.val + 1]).toNat false

/-- The line is the ticks of the 16 pairs in index order. -/
theorem lineTicks_eq_flatten {w : Nat} (t : Vector (BitVec w) 32) :
    lineTicks t = ((List.finRange 16).map (pairTicks t)).flatten := by
  rw [lineTicks, lineSegments, List.flatMap_assoc, ← List.flatMap_def]
  congr 1
  funext i
  simp [pairTicks]

@[simp] theorem pairTicks_length {w : Nat} (t : Vector (BitVec w) 32) (i : Fin 16) :
    (pairTicks t i).length = (t[2 * i.val]).toNat + (t[2 * i.val + 1]).toNat := by
  simp [pairTicks]

/-- A pair is high for its on duration and low for the rest. -/
theorem pairTicks_getElem? {w : Nat} (t : Vector (BitVec w) 32) (i : Fin 16) {j : Nat}
    (hj : j < (pairTicks t i).length) :
    (pairTicks t i)[j]? = some (decide (j < (t[2 * i.val]).toNat)) := by
  rw [pairTicks_length] at hj
  by_cases h : j < (t[2 * i.val]).toNat
  · simp [pairTicks, List.getElem?_append, h]
  · simp [pairTicks, List.getElem?_append, h, List.getElem?_replicate]
    omega

end Sys2Proof.Machine
end

