-- ==== Sys2Proof/Laws/State.lean ====
section
/-! SUPPORT. One lemma per field per update of the state. -/

namespace Sys2Proof.Machine.State

variable (s : State)

@[simp] theorem setReqIllegal_frame (b : Bool) : (s.setReqIllegal b).frame = s.frame := rfl
@[simp] theorem setReqIllegal_train (b : Bool) : (s.setReqIllegal b).train = s.train := rfl
@[simp] theorem setReqIllegal_tlmTemp (b : Bool) : (s.setReqIllegal b).tlmTemp = s.tlmTemp := rfl
@[simp] theorem setReqIllegal_tlmVolt (b : Bool) : (s.setReqIllegal b).tlmVolt = s.tlmVolt := rfl
@[simp] theorem setReqIllegal_tlmCurr (b : Bool) : (s.setReqIllegal b).tlmCurr = s.tlmCurr := rfl
@[simp] theorem setReqIllegal_tlmCons (b : Bool) : (s.setReqIllegal b).tlmCons = s.tlmCons := rfl
@[simp] theorem setReqIllegal_tlmErpm (b : Bool) : (s.setReqIllegal b).tlmErpm = s.tlmErpm := rfl
@[simp] theorem setReqIllegal_tlmLast (b : Bool) : (s.setReqIllegal b).tlmLast = s.tlmLast := rfl
@[simp] theorem setReqIllegal_tlmValid (b : Bool) : (s.setReqIllegal b).tlmValid = s.tlmValid := rfl
@[simp] theorem setReqIllegal_reqIllegal (b : Bool) : (s.setReqIllegal b).reqIllegal = b := rfl
@[simp] theorem setReqIllegal_rxq (b : Bool) : (s.setReqIllegal b).rxq = s.rxq := rfl
@[simp] theorem setReqIllegal_genBusy (b : Bool) : (s.setReqIllegal b).genBusy = s.genBusy := rfl
@[simp] theorem setReqIllegal_sent (b : Bool) : (s.setReqIllegal b).sent = s.sent := rfl
@[simp] theorem setReqIllegal_reads (b : Bool) : (s.setReqIllegal b).reads = s.reads := rfl
@[simp] theorem setReqIllegal_reqs (b : Bool) : (s.setReqIllegal b).reqs = s.reqs := rfl
@[simp] theorem setReqIllegal_sched (b : Bool) : (s.setReqIllegal b).sched = s.sched := rfl

@[simp] theorem setFrame_frame (f : Frame) : (s.setFrame f).frame = f := rfl
@[simp] theorem setFrame_train (f : Frame) : (s.setFrame f).train = s.train := rfl
@[simp] theorem setFrame_tlmTemp (f : Frame) : (s.setFrame f).tlmTemp = s.tlmTemp := rfl
@[simp] theorem setFrame_tlmVolt (f : Frame) : (s.setFrame f).tlmVolt = s.tlmVolt := rfl
@[simp] theorem setFrame_tlmCurr (f : Frame) : (s.setFrame f).tlmCurr = s.tlmCurr := rfl
@[simp] theorem setFrame_tlmCons (f : Frame) : (s.setFrame f).tlmCons = s.tlmCons := rfl
@[simp] theorem setFrame_tlmErpm (f : Frame) : (s.setFrame f).tlmErpm = s.tlmErpm := rfl
@[simp] theorem setFrame_tlmLast (f : Frame) : (s.setFrame f).tlmLast = s.tlmLast := rfl
@[simp] theorem setFrame_tlmValid (f : Frame) : (s.setFrame f).tlmValid = s.tlmValid := rfl
@[simp] theorem setFrame_reqIllegal (f : Frame) : (s.setFrame f).reqIllegal = s.reqIllegal := rfl
@[simp] theorem setFrame_rxq (f : Frame) : (s.setFrame f).rxq = s.rxq := rfl
@[simp] theorem setFrame_genBusy (f : Frame) : (s.setFrame f).genBusy = s.genBusy := rfl
@[simp] theorem setFrame_sent (f : Frame) : (s.setFrame f).sent = s.sent := rfl
@[simp] theorem setFrame_reads (f : Frame) : (s.setFrame f).reads = s.reads := rfl
@[simp] theorem setFrame_reqs (f : Frame) : (s.setFrame f).reqs = s.reqs := rfl
@[simp] theorem setFrame_sched (f : Frame) : (s.setFrame f).sched = s.sched := rfl

@[simp] theorem setTrain_frame (t : Train) : (s.setTrain t).frame = s.frame := rfl
@[simp] theorem setTrain_train (t : Train) : (s.setTrain t).train = t := rfl
@[simp] theorem setTrain_tlmTemp (t : Train) : (s.setTrain t).tlmTemp = s.tlmTemp := rfl
@[simp] theorem setTrain_tlmVolt (t : Train) : (s.setTrain t).tlmVolt = s.tlmVolt := rfl
@[simp] theorem setTrain_tlmCurr (t : Train) : (s.setTrain t).tlmCurr = s.tlmCurr := rfl
@[simp] theorem setTrain_tlmCons (t : Train) : (s.setTrain t).tlmCons = s.tlmCons := rfl
@[simp] theorem setTrain_tlmErpm (t : Train) : (s.setTrain t).tlmErpm = s.tlmErpm := rfl
@[simp] theorem setTrain_tlmLast (t : Train) : (s.setTrain t).tlmLast = s.tlmLast := rfl
@[simp] theorem setTrain_tlmValid (t : Train) : (s.setTrain t).tlmValid = s.tlmValid := rfl
@[simp] theorem setTrain_reqIllegal (t : Train) : (s.setTrain t).reqIllegal = s.reqIllegal := rfl
@[simp] theorem setTrain_rxq (t : Train) : (s.setTrain t).rxq = s.rxq := rfl
@[simp] theorem setTrain_genBusy (t : Train) : (s.setTrain t).genBusy = s.genBusy := rfl
@[simp] theorem setTrain_sent (t : Train) : (s.setTrain t).sent = s.sent := rfl
@[simp] theorem setTrain_reads (t : Train) : (s.setTrain t).reads = s.reads := rfl
@[simp] theorem setTrain_reqs (t : Train) : (s.setTrain t).reqs = s.reqs := rfl
@[simp] theorem setTrain_sched (t : Train) : (s.setTrain t).sched = s.sched := rfl

@[simp] theorem setTlmLast_frame (l : TlmLast) : (s.setTlmLast l).frame = s.frame := rfl
@[simp] theorem setTlmLast_train (l : TlmLast) : (s.setTlmLast l).train = s.train := rfl
@[simp] theorem setTlmLast_tlmTemp (l : TlmLast) : (s.setTlmLast l).tlmTemp = s.tlmTemp := rfl
@[simp] theorem setTlmLast_tlmVolt (l : TlmLast) : (s.setTlmLast l).tlmVolt = s.tlmVolt := rfl
@[simp] theorem setTlmLast_tlmCurr (l : TlmLast) : (s.setTlmLast l).tlmCurr = s.tlmCurr := rfl
@[simp] theorem setTlmLast_tlmCons (l : TlmLast) : (s.setTlmLast l).tlmCons = s.tlmCons := rfl
@[simp] theorem setTlmLast_tlmErpm (l : TlmLast) : (s.setTlmLast l).tlmErpm = s.tlmErpm := rfl
@[simp] theorem setTlmLast_tlmLast (l : TlmLast) : (s.setTlmLast l).tlmLast = l := rfl
@[simp] theorem setTlmLast_tlmValid (l : TlmLast) : (s.setTlmLast l).tlmValid = s.tlmValid := rfl
@[simp] theorem setTlmLast_reqIllegal (l : TlmLast) : (s.setTlmLast l).reqIllegal = s.reqIllegal := rfl
@[simp] theorem setTlmLast_rxq (l : TlmLast) : (s.setTlmLast l).rxq = s.rxq := rfl
@[simp] theorem setTlmLast_genBusy (l : TlmLast) : (s.setTlmLast l).genBusy = s.genBusy := rfl
@[simp] theorem setTlmLast_sent (l : TlmLast) : (s.setTlmLast l).sent = s.sent := rfl
@[simp] theorem setTlmLast_reads (l : TlmLast) : (s.setTlmLast l).reads = s.reads := rfl
@[simp] theorem setTlmLast_reqs (l : TlmLast) : (s.setTlmLast l).reqs = s.reqs := rfl
@[simp] theorem setTlmLast_sched (l : TlmLast) : (s.setTlmLast l).sched = s.sched := rfl

@[simp] theorem setRxq_frame (q : List Byte) : (s.setRxq q).frame = s.frame := rfl
@[simp] theorem setRxq_train (q : List Byte) : (s.setRxq q).train = s.train := rfl
@[simp] theorem setRxq_tlmTemp (q : List Byte) : (s.setRxq q).tlmTemp = s.tlmTemp := rfl
@[simp] theorem setRxq_tlmVolt (q : List Byte) : (s.setRxq q).tlmVolt = s.tlmVolt := rfl
@[simp] theorem setRxq_tlmCurr (q : List Byte) : (s.setRxq q).tlmCurr = s.tlmCurr := rfl
@[simp] theorem setRxq_tlmCons (q : List Byte) : (s.setRxq q).tlmCons = s.tlmCons := rfl
@[simp] theorem setRxq_tlmErpm (q : List Byte) : (s.setRxq q).tlmErpm = s.tlmErpm := rfl
@[simp] theorem setRxq_tlmLast (q : List Byte) : (s.setRxq q).tlmLast = s.tlmLast := rfl
@[simp] theorem setRxq_tlmValid (q : List Byte) : (s.setRxq q).tlmValid = s.tlmValid := rfl
@[simp] theorem setRxq_reqIllegal (q : List Byte) : (s.setRxq q).reqIllegal = s.reqIllegal := rfl
@[simp] theorem setRxq_rxq (q : List Byte) : (s.setRxq q).rxq = q := rfl
@[simp] theorem setRxq_genBusy (q : List Byte) : (s.setRxq q).genBusy = s.genBusy := rfl
@[simp] theorem setRxq_sent (q : List Byte) : (s.setRxq q).sent = s.sent := rfl
@[simp] theorem setRxq_reads (q : List Byte) : (s.setRxq q).reads = s.reads := rfl
@[simp] theorem setRxq_reqs (q : List Byte) : (s.setRxq q).reqs = s.reqs := rfl
@[simp] theorem setRxq_sched (q : List Byte) : (s.setRxq q).sched = s.sched := rfl

@[simp] theorem setGenBusy_frame (b : Bool) : (s.setGenBusy b).frame = s.frame := rfl
@[simp] theorem setGenBusy_train (b : Bool) : (s.setGenBusy b).train = s.train := rfl
@[simp] theorem setGenBusy_tlmTemp (b : Bool) : (s.setGenBusy b).tlmTemp = s.tlmTemp := rfl
@[simp] theorem setGenBusy_tlmVolt (b : Bool) : (s.setGenBusy b).tlmVolt = s.tlmVolt := rfl
@[simp] theorem setGenBusy_tlmCurr (b : Bool) : (s.setGenBusy b).tlmCurr = s.tlmCurr := rfl
@[simp] theorem setGenBusy_tlmCons (b : Bool) : (s.setGenBusy b).tlmCons = s.tlmCons := rfl
@[simp] theorem setGenBusy_tlmErpm (b : Bool) : (s.setGenBusy b).tlmErpm = s.tlmErpm := rfl
@[simp] theorem setGenBusy_tlmLast (b : Bool) : (s.setGenBusy b).tlmLast = s.tlmLast := rfl
@[simp] theorem setGenBusy_tlmValid (b : Bool) : (s.setGenBusy b).tlmValid = s.tlmValid := rfl
@[simp] theorem setGenBusy_reqIllegal (b : Bool) : (s.setGenBusy b).reqIllegal = s.reqIllegal := rfl
@[simp] theorem setGenBusy_rxq (b : Bool) : (s.setGenBusy b).rxq = s.rxq := rfl
@[simp] theorem setGenBusy_genBusy (b : Bool) : (s.setGenBusy b).genBusy = b := rfl
@[simp] theorem setGenBusy_sent (b : Bool) : (s.setGenBusy b).sent = s.sent := rfl
@[simp] theorem setGenBusy_reads (b : Bool) : (s.setGenBusy b).reads = s.reads := rfl
@[simp] theorem setGenBusy_reqs (b : Bool) : (s.setGenBusy b).reqs = s.reqs := rfl
@[simp] theorem setGenBusy_sched (b : Bool) : (s.setGenBusy b).sched = s.sched := rfl

@[simp] theorem recordTx_frame (t : Train) : (s.recordTx t).frame = s.frame := rfl
@[simp] theorem recordTx_train (t : Train) : (s.recordTx t).train = s.train := rfl
@[simp] theorem recordTx_tlmTemp (t : Train) : (s.recordTx t).tlmTemp = s.tlmTemp := rfl
@[simp] theorem recordTx_tlmVolt (t : Train) : (s.recordTx t).tlmVolt = s.tlmVolt := rfl
@[simp] theorem recordTx_tlmCurr (t : Train) : (s.recordTx t).tlmCurr = s.tlmCurr := rfl
@[simp] theorem recordTx_tlmCons (t : Train) : (s.recordTx t).tlmCons = s.tlmCons := rfl
@[simp] theorem recordTx_tlmErpm (t : Train) : (s.recordTx t).tlmErpm = s.tlmErpm := rfl
@[simp] theorem recordTx_tlmLast (t : Train) : (s.recordTx t).tlmLast = s.tlmLast := rfl
@[simp] theorem recordTx_tlmValid (t : Train) : (s.recordTx t).tlmValid = s.tlmValid := rfl
@[simp] theorem recordTx_reqIllegal (t : Train) : (s.recordTx t).reqIllegal = s.reqIllegal := rfl
@[simp] theorem recordTx_rxq (t : Train) : (s.recordTx t).rxq = s.rxq := rfl
@[simp] theorem recordTx_genBusy (t : Train) : (s.recordTx t).genBusy = s.genBusy := rfl
@[simp] theorem recordTx_sent (t : Train) : (s.recordTx t).sent = s.sent ++ [t] := rfl
@[simp] theorem recordTx_reads (t : Train) : (s.recordTx t).reads = s.reads := rfl
@[simp] theorem recordTx_reqs (t : Train) : (s.recordTx t).reqs = s.reqs := rfl
@[simp] theorem recordTx_sched (t : Train) : (s.recordTx t).sched = s.sched := rfl

@[simp] theorem recordRead_frame (k : RegIndex) (w : Word) : (s.recordRead k w).frame = s.frame := rfl
@[simp] theorem recordRead_train (k : RegIndex) (w : Word) : (s.recordRead k w).train = s.train := rfl
@[simp] theorem recordRead_tlmTemp (k : RegIndex) (w : Word) : (s.recordRead k w).tlmTemp = s.tlmTemp := rfl
@[simp] theorem recordRead_tlmVolt (k : RegIndex) (w : Word) : (s.recordRead k w).tlmVolt = s.tlmVolt := rfl
@[simp] theorem recordRead_tlmCurr (k : RegIndex) (w : Word) : (s.recordRead k w).tlmCurr = s.tlmCurr := rfl
@[simp] theorem recordRead_tlmCons (k : RegIndex) (w : Word) : (s.recordRead k w).tlmCons = s.tlmCons := rfl
@[simp] theorem recordRead_tlmErpm (k : RegIndex) (w : Word) : (s.recordRead k w).tlmErpm = s.tlmErpm := rfl
@[simp] theorem recordRead_tlmLast (k : RegIndex) (w : Word) : (s.recordRead k w).tlmLast = s.tlmLast := rfl
@[simp] theorem recordRead_tlmValid (k : RegIndex) (w : Word) : (s.recordRead k w).tlmValid = s.tlmValid := rfl
@[simp] theorem recordRead_reqIllegal (k : RegIndex) (w : Word) : (s.recordRead k w).reqIllegal = s.reqIllegal := rfl
@[simp] theorem recordRead_rxq (k : RegIndex) (w : Word) : (s.recordRead k w).rxq = s.rxq := rfl
@[simp] theorem recordRead_genBusy (k : RegIndex) (w : Word) : (s.recordRead k w).genBusy = s.genBusy := rfl
@[simp] theorem recordRead_sent (k : RegIndex) (w : Word) : (s.recordRead k w).sent = s.sent := rfl
@[simp] theorem recordRead_reads (k : RegIndex) (w : Word) : (s.recordRead k w).reads = s.reads ++ [(k, w)] := rfl
@[simp] theorem recordRead_reqs (k : RegIndex) (w : Word) : (s.recordRead k w).reqs = s.reqs := rfl
@[simp] theorem recordRead_sched (k : RegIndex) (w : Word) : (s.recordRead k w).sched = s.sched := rfl

@[simp] theorem setReqs_frame (ws : List Word) : (s.setReqs ws).frame = s.frame := rfl
@[simp] theorem setReqs_train (ws : List Word) : (s.setReqs ws).train = s.train := rfl
@[simp] theorem setReqs_tlmTemp (ws : List Word) : (s.setReqs ws).tlmTemp = s.tlmTemp := rfl
@[simp] theorem setReqs_tlmVolt (ws : List Word) : (s.setReqs ws).tlmVolt = s.tlmVolt := rfl
@[simp] theorem setReqs_tlmCurr (ws : List Word) : (s.setReqs ws).tlmCurr = s.tlmCurr := rfl
@[simp] theorem setReqs_tlmCons (ws : List Word) : (s.setReqs ws).tlmCons = s.tlmCons := rfl
@[simp] theorem setReqs_tlmErpm (ws : List Word) : (s.setReqs ws).tlmErpm = s.tlmErpm := rfl
@[simp] theorem setReqs_tlmLast (ws : List Word) : (s.setReqs ws).tlmLast = s.tlmLast := rfl
@[simp] theorem setReqs_tlmValid (ws : List Word) : (s.setReqs ws).tlmValid = s.tlmValid := rfl
@[simp] theorem setReqs_reqIllegal (ws : List Word) : (s.setReqs ws).reqIllegal = s.reqIllegal := rfl
@[simp] theorem setReqs_rxq (ws : List Word) : (s.setReqs ws).rxq = s.rxq := rfl
@[simp] theorem setReqs_genBusy (ws : List Word) : (s.setReqs ws).genBusy = s.genBusy := rfl
@[simp] theorem setReqs_sent (ws : List Word) : (s.setReqs ws).sent = s.sent := rfl
@[simp] theorem setReqs_reads (ws : List Word) : (s.setReqs ws).reads = s.reads := rfl
@[simp] theorem setReqs_reqs (ws : List Word) : (s.setReqs ws).reqs = ws := rfl
@[simp] theorem setReqs_sched (ws : List Word) : (s.setReqs ws).sched = s.sched := rfl

@[simp] theorem setSched_frame (ts : List Turn) : (s.setSched ts).frame = s.frame := rfl
@[simp] theorem setSched_train (ts : List Turn) : (s.setSched ts).train = s.train := rfl
@[simp] theorem setSched_tlmTemp (ts : List Turn) : (s.setSched ts).tlmTemp = s.tlmTemp := rfl
@[simp] theorem setSched_tlmVolt (ts : List Turn) : (s.setSched ts).tlmVolt = s.tlmVolt := rfl
@[simp] theorem setSched_tlmCurr (ts : List Turn) : (s.setSched ts).tlmCurr = s.tlmCurr := rfl
@[simp] theorem setSched_tlmCons (ts : List Turn) : (s.setSched ts).tlmCons = s.tlmCons := rfl
@[simp] theorem setSched_tlmErpm (ts : List Turn) : (s.setSched ts).tlmErpm = s.tlmErpm := rfl
@[simp] theorem setSched_tlmLast (ts : List Turn) : (s.setSched ts).tlmLast = s.tlmLast := rfl
@[simp] theorem setSched_tlmValid (ts : List Turn) : (s.setSched ts).tlmValid = s.tlmValid := rfl
@[simp] theorem setSched_reqIllegal (ts : List Turn) : (s.setSched ts).reqIllegal = s.reqIllegal := rfl
@[simp] theorem setSched_rxq (ts : List Turn) : (s.setSched ts).rxq = s.rxq := rfl
@[simp] theorem setSched_genBusy (ts : List Turn) : (s.setSched ts).genBusy = s.genBusy := rfl
@[simp] theorem setSched_sent (ts : List Turn) : (s.setSched ts).sent = s.sent := rfl
@[simp] theorem setSched_reads (ts : List Turn) : (s.setSched ts).reads = s.reads := rfl
@[simp] theorem setSched_reqs (ts : List Turn) : (s.setSched ts).reqs = s.reqs := rfl
@[simp] theorem setSched_sched (ts : List Turn) : (s.setSched ts).sched = ts := rfl

@[simp] theorem latchTlm_frame (f : Vector Byte 10) : (s.latchTlm f).frame = s.frame := rfl
@[simp] theorem latchTlm_train (f : Vector Byte 10) : (s.latchTlm f).train = s.train := rfl
@[simp] theorem latchTlm_tlmTemp (f : Vector Byte 10) : (s.latchTlm f).tlmTemp = f[0] := rfl
@[simp] theorem latchTlm_tlmVolt (f : Vector Byte 10) : (s.latchTlm f).tlmVolt = be16 f[1] f[2] := rfl
@[simp] theorem latchTlm_tlmCurr (f : Vector Byte 10) : (s.latchTlm f).tlmCurr = be16 f[3] f[4] := rfl
@[simp] theorem latchTlm_tlmCons (f : Vector Byte 10) : (s.latchTlm f).tlmCons = be16 f[5] f[6] := rfl
@[simp] theorem latchTlm_tlmErpm (f : Vector Byte 10) : (s.latchTlm f).tlmErpm = be16 f[7] f[8] := rfl
@[simp] theorem latchTlm_tlmLast (f : Vector Byte 10) : (s.latchTlm f).tlmLast = .ok := rfl
@[simp] theorem latchTlm_tlmValid (f : Vector Byte 10) : (s.latchTlm f).tlmValid = true := rfl
@[simp] theorem latchTlm_reqIllegal (f : Vector Byte 10) : (s.latchTlm f).reqIllegal = s.reqIllegal := rfl
@[simp] theorem latchTlm_rxq (f : Vector Byte 10) : (s.latchTlm f).rxq = s.rxq := rfl
@[simp] theorem latchTlm_genBusy (f : Vector Byte 10) : (s.latchTlm f).genBusy = s.genBusy := rfl
@[simp] theorem latchTlm_sent (f : Vector Byte 10) : (s.latchTlm f).sent = s.sent := rfl
@[simp] theorem latchTlm_reads (f : Vector Byte 10) : (s.latchTlm f).reads = s.reads := rfl
@[simp] theorem latchTlm_reqs (f : Vector Byte 10) : (s.latchTlm f).reqs = s.reqs := rfl
@[simp] theorem latchTlm_sched (f : Vector Byte 10) : (s.latchTlm f).sched = s.sched := rfl

@[simp] theorem resetBlock_frame : (resetBlock s).frame = 0#16 := rfl
@[simp] theorem resetBlock_train : (resetBlock s).train = trainOf Config.cfg 0#16 := rfl
@[simp] theorem resetBlock_tlmTemp : (resetBlock s).tlmTemp = 0#8 := rfl
@[simp] theorem resetBlock_tlmVolt : (resetBlock s).tlmVolt = 0#16 := rfl
@[simp] theorem resetBlock_tlmCurr : (resetBlock s).tlmCurr = 0#16 := rfl
@[simp] theorem resetBlock_tlmCons : (resetBlock s).tlmCons = 0#16 := rfl
@[simp] theorem resetBlock_tlmErpm : (resetBlock s).tlmErpm = 0#16 := rfl
@[simp] theorem resetBlock_tlmLast : (resetBlock s).tlmLast = .none := rfl
@[simp] theorem resetBlock_tlmValid : (resetBlock s).tlmValid = false := rfl
@[simp] theorem resetBlock_reqIllegal : (resetBlock s).reqIllegal = false := rfl
@[simp] theorem resetBlock_rxq : (resetBlock s).rxq = [] := rfl
@[simp] theorem resetBlock_genBusy : (resetBlock s).genBusy = false := rfl
@[simp] theorem resetBlock_sent : (resetBlock s).sent = s.sent := rfl
@[simp] theorem resetBlock_reads : (resetBlock s).reads = s.reads := rfl
@[simp] theorem resetBlock_reqs : (resetBlock s).reqs = s.reqs := rfl
@[simp] theorem resetBlock_sched : (resetBlock s).sched = s.sched := rfl

end Sys2Proof.Machine.State
end

