-- ==== Sys2Proof/Laws/Ops.lean ====
section
/-! SUPPORT. One lemma per shared operation, which says once what it can do. -/

namespace Sys2Proof.Machine

variable (s : State)

theorem reqReady_eq_true : reqReady s = true ↔ s.genBusy = false := by simp [reqReady]

@[simp] theorem acceptRequest_eq : acceptRequest s = s.setReqIllegal false := rfl

@[simp] theorem rejectRequest_eq : rejectRequest s = s.setReqIllegal true := rfl

@[simp] theorem emitTrain_eq : emitTrain s = (s.setGenBusy true).recordTx s.train := rfl

@[simp] theorem genDone_eq : genDone s = s.setGenBusy false := rfl

@[simp] theorem hostRead_eq (k : RegIndex) : hostRead k s = s.recordRead k (regRead s k) := rfl

@[simp] theorem rxDrain_fst : (rxDrain s).1 = s.rxq := rfl

@[simp] theorem rxDrain_snd : (rxDrain s).2 = s.setRxq [] := rfl

/-- R36: a push below RX_DEPTH, or the loss of the new or of the oldest byte. -/
theorem rxPush_cases (c : Cfg) (b : Byte) (loss : Loss) :
    (s.rxq.length < c.rxDepth ∧ rxPush c b loss s = s.setRxq (s.rxq ++ [b])) ∨
    (c.rxDepth ≤ s.rxq.length ∧ loss = .newest ∧ rxPush c b loss s = s) ∨
    (c.rxDepth ≤ s.rxq.length ∧ loss = .oldest ∧ rxPush c b loss s = s.setRxq (s.rxq.drop 1 ++ [b])) := by
  unfold rxPush
  split
  · exact .inl ⟨‹_›, rfl⟩
  · cases loss
    · exact .inr (.inl ⟨by omega, rfl, rfl⟩)
    · exact .inr (.inr ⟨by omega, rfl, rfl⟩)

/-- A push writes RXQ and nothing else. -/
theorem rxPush_eq_setRxq (c : Cfg) (b : Byte) (loss : Loss) :
    rxPush c b loss s = s.setRxq (rxPush c b loss s).rxq := by
  obtain ⟨_, h⟩ | ⟨_, _, h⟩ | ⟨_, _, h⟩ := rxPush_cases s c b loss <;> rw [h] <;> rfl

/-- R35: a push keeps RXQ within RX_DEPTH. -/
theorem rxPush_keeps_depth {c : Cfg} (hc : 10 ≤ c.rxDepth) (b : Byte) (loss : Loss)
    (h : s.rxq.length ≤ c.rxDepth) : (rxPush c b loss s).rxq.length ≤ c.rxDepth := by
  obtain ⟨_, e⟩ | ⟨_, _, e⟩ | ⟨_, _, e⟩ := rxPush_cases s c b loss
  · rw [e]; simp; omega
  · rw [e]; exact h
  · rw [e]; simp; omega

/-- R150: the three outcomes of TLM_DECODE. -/
theorem tlmDecodeWith_cases (c : Cfg) :
    (s.rxq.length < 10 ∧ tlmDecodeWith c s =
      ((s.setReqIllegal false).setRxq (if c.shortReadDrains then [] else s.rxq)).setTlmLast .short) ∨
    (10 ≤ s.rxq.length ∧ tlmCheckOk c (newest10 s.rxq) = true ∧
      tlmDecodeWith c s = ((s.setReqIllegal false).setRxq []).latchTlm (newest10 s.rxq)) ∨
    (10 ≤ s.rxq.length ∧ tlmCheckOk c (newest10 s.rxq) = false ∧
      tlmDecodeWith c s = ((s.setReqIllegal false).setRxq []).setTlmLast .badsum) := by
  by_cases hl : s.rxq.length < 10
  · refine .inl ⟨hl, ?_⟩
    cases hd : c.shortReadDrains <;> simp [tlmDecodeWith, hl, tlmShort, hd, State.setRxq, State.setReqIllegal]
  · cases hk : tlmCheckOk c (newest10 s.rxq)
    · exact .inr (.inr ⟨by omega, rfl, by simp [tlmDecodeWith, hl, tlmFrame, hk]⟩)
    · exact .inr (.inl ⟨by omega, rfl, by simp [tlmDecodeWith, hl, tlmFrame, hk]⟩)

/-- R152: the newest 10 of bytes that end in the 10 bytes f are f. -/
theorem newest10_append (old : List Byte) (f : Vector Byte 10) : newest10 (old ++ f.toList) = f := by
  ext i hi
  simp [newest10]

end Sys2Proof.Machine
end

