-- ==== Sys2Proof/Laws/PerInstr.lean ====
section
/-! SUPPORT. What holds of every request as syntax, one lemma per constructor: the encoder writes legal fields only. -/

namespace Sys2Proof.Laws.EncodesLegally

/-- R75, R76: the fields the encoder writes for the request are those of a legal word, under the request's own opcode row. -/
def Statement (i : Instr) : Prop :=
  i.fields.wf = true ∧ ∃ r ∈ opcodeTable, r.mnemonic = i.mnemonic ∧ r.base.extractLsb' 28 4 = i.fields.op

theorem nop : Statement .nop := by unfold Statement; decide

theorem encThr (thr : BitVec 16) (t : Bool) : Statement (.encThr thr t) :=
  ⟨by simp [Instr.fields, Fields.wf, Fields.opAssigned, Fields.rsvZero, Fields.tAllowed, Fields.immAllowed],
   ⟨"ENC_THR", 0x10000000#32, 0xFFFE0000#32⟩, by simp [opcodeTable], rfl, rfl⟩

theorem encCmd (code : Payload) (t : Bool) : Statement (.encCmd code t) :=
  ⟨by
    have : (code.setWidth 16).toNat < 2 ^ 11 := by simp; omega
    simp [Instr.fields, Fields.wf, Fields.opAssigned, Fields.rsvZero, Fields.tAllowed, Fields.immAllowed]; omega,
   ⟨"ENC_CMD", 0x20000000#32, 0xFFFEF800#32⟩, by simp [opcodeTable], rfl, rfl⟩

theorem genTrain : Statement .genTrain := by unfold Statement; decide

theorem send : Statement .send := by unfold Statement; decide

theorem tlmDecode : Statement .tlmDecode := by unfold Statement; decide

end Sys2Proof.Laws.EncodesLegally
end

