-- ==== Sys2Proof/Laws/Step.lean ====
section
/-! SUPPORT. What a step can do, said once: every meaning and every turn as a total function of the state. -/

namespace Sys2Proof.Laws

open Sys2Proof.Machine

/-- The state in which a request leaves the block. -/
def after : Instr → State → State
  | .nop, s => s.setReqIllegal false
  | .encThr thr t, s => (s.setFrame (makeFrame (throttlePayload Config.cfg.roundMode (thrOperand thr)) t)).setReqIllegal false
  | .encCmd code t, s => (s.setFrame (makeFrame code t)).setReqIllegal false
  | .genTrain, s => (s.setTrain (trainOf Config.cfg s.frame)).setReqIllegal false
  | .send, s => ((s.setReqIllegal false).setGenBusy true).recordTx s.train
  | .tlmDecode, s => tlmDecodeWith Config.cfg s

theorem exec_eq_after (i : Instr) (s : State) : exec i s = .next (after i s) := by cases i <;> rfl

/-- Every legal request clears REQ_ILLEGAL. -/
@[simp] theorem after_reqIllegal (i : Instr) (s : State) : (after i s).reqIllegal = false := by
  cases i <;> simp [after]
  obtain ⟨_, e⟩ | ⟨_, _, e⟩ | ⟨_, _, e⟩ := tlmDecodeWith_cases s Config.cfg <;> simp [e]

/-- No request touches the host's list. -/
@[simp] theorem after_reqs (i : Instr) (s : State) : (after i s).reqs = s.reqs := by
  cases i <;> simp [after]
  obtain ⟨_, e⟩ | ⟨_, _, e⟩ | ⟨_, _, e⟩ := tlmDecodeWith_cases s Config.cfg <;> simp [e]

/-- No request touches the schedule. -/
@[simp] theorem after_sched (i : Instr) (s : State) : (after i s).sched = s.sched := by
  cases i <;> simp [after]
  obtain ⟨_, e⟩ | ⟨_, _, e⟩ | ⟨_, _, e⟩ := tlmDecodeWith_cases s Config.cfg <;> simp [e]

/-- The state after an accepted request word, legal or not. -/
def performed (w : Word) (s : State) : State :=
  match decode w with
  | .ok i => after i s
  | .error _ => s.setReqIllegal true

theorem perform_eq (w : Word) (s : State) : perform w s = .next (performed w s) := by
  unfold perform performed
  cases decode w with
  | error e => rfl
  | ok i => exact exec_eq_after i s

/-- The state after the host's turn. -/
def hosted (s : State) : State :=
  match s.reqs with
  | [] => s
  | w :: ws => if s.genBusy then s else performed w (s.setReqs ws)

theorem hostTurn_eq (s : State) : hostTurn s = .next (hosted s) := by
  unfold hostTurn hosted
  cases s.reqs with
  | nil => rfl
  | cons w ws => cases h : s.genBusy <;> simp [reqReady, h, perform_eq]

/-- The state after a turn. -/
def turned : Turn → State → State
  | .host, s => hosted s
  | .read k, s => s.recordRead k (regRead s k)
  | .rx b loss, s => rxPush Config.cfg b loss s
  | .done, s => s.setGenBusy false
  | .rst, s => resetBlock s

theorem takeTurn_eq (t : Turn) (s : State) : takeTurn t s = .next (turned t s) := by
  cases t <;> simp [takeTurn, turned, hostTurn_eq]

/-- The state after a step. -/
def stepped (s : State) : State :=
  match s.sched with
  | [] => s
  | t :: ts => turned t (s.setSched ts)

theorem step_eq_stepped (s : State) : step s = .next (stepped s) := by
  unfold step schedStep stepped
  cases s.sched <;> simp [takeTurn_eq]

/-- What the host's turn can do. -/
theorem hosted_cases (s : State) :
    (s.reqs = [] ∧ hosted s = s) ∨ (s.genBusy = true ∧ hosted s = s) ∨
    (∃ w ws, s.reqs = w :: ws ∧ s.genBusy = false ∧ hosted s = performed w (s.setReqs ws)) := by
  unfold hosted
  cases h : s.reqs with
  | nil => exact .inl ⟨rfl, rfl⟩
  | cons w ws =>
    cases hb : s.genBusy
    · exact .inr (.inr ⟨w, ws, rfl, rfl, by simp⟩)
    · exact .inr (.inl ⟨rfl, by simp⟩)

/-- What an accepted request word can do. -/
theorem performed_cases (w : Word) (s : State) :
    (∃ i, decode w = .ok i ∧ performed w s = after i s) ∨
    (∃ e, decode w = .error e ∧ performed w s = s.setReqIllegal true) := by
  unfold performed
  cases h : decode w with
  | ok i => exact .inl ⟨i, rfl, rfl⟩
  | error e => exact .inr ⟨e, rfl, rfl⟩

end Sys2Proof.Laws
end

