-- ==== Sys2Proof/Laws/Run.lean ====
section
/-! SUPPORT. Runs of the machine: any number of steps as a total function of the state. -/

namespace Sys2Proof.Laws

open Sys2Proof.Machine Sys2Proof.Safety

theorem runSteps_zero (s : State) : runSteps 0 s = .next s := rfl

theorem runSteps_succ (n : Nat) (s : State) : runSteps (n + 1) s = runSteps n (stepped s) := by
  rw [runSteps, step_eq_stepped]

/-- The state after n steps. -/
def steppedN : Nat → State → State
  | 0, s => s
  | n + 1, s => steppedN n (stepped s)

theorem runSteps_eq (n : Nat) (s : State) : runSteps n s = .next (steppedN n s) := by
  induction n generalizing s with
  | zero => rfl
  | succ n ih => rw [runSteps_succ, ih]; rfl

/-- A run of a steps and then b steps. -/
theorem steppedN_add (a b : Nat) (s : State) : steppedN (a + b) s = steppedN b (steppedN a s) := by
  induction a generalizing s with
  | zero => simp [steppedN]
  | succ a ih => rw [Nat.succ_add]; exact ih (stepped s)

/-- What holds of a state and is kept by every step holds after any number of steps. -/
theorem steppedN_keeps {P : State → Prop} (h : ∀ s, P s → P (stepped s)) (n : Nat) (s : State) (hs : P s) :
    P (steppedN n s) := by
  induction n generalizing s with
  | zero => exact hs
  | succ n ih => exact ih _ (h s hs)

end Sys2Proof.Laws
end

