-- ==== Sys2Proof/Laws/Train.lean ====
section
/-! SUPPORT. The entries of a train as numbers of ticks, for a well-formed configuration. -/

namespace Sys2Proof.Machine

/-- A high time is one of the two constants, and leaves a low time of at least one tick. -/
theorem highTime_bounds {c : Cfg} (hc : c.wf = true) (b : Bool) :
    c.t0h ≤ highTime c b ∧ highTime c b ≤ c.t1h ∧ highTime c b < c.tBit := by
  have := Cfg.wf_times hc
  cases b <;> simp [highTime] <;> omega

/-- Every duration fits in DUR_W bits. -/
theorem duration_lt {c : Cfg} (hc : c.wf = true) (f : Frame) (k : Nat) : duration c f k < 2 ^ c.durW := by
  have := highTime_bounds hc (f.getLsbD (15 - k / 2))
  have := Cfg.wf_lowFit hc
  have := Cfg.wf_highFit hc
  unfold duration
  split
  · omega
  · split <;> omega

/-- No entry is truncated to its DUR_W bits. -/
theorem trainOf_toNat {c : Cfg} (hc : c.wf = true) (f : Frame) (k : Nat) (hk : k < 32) :
    ((trainOf c f)[k]).toNat = duration c f k := by
  simp [trainOf, Nat.mod_eq_of_lt (duration_lt hc f k)]

end Sys2Proof.Machine
end

