-- ==== Sys2Proof/Tests/Slice0.lean ====
section
/-! SUPPORT. The model's own tests. Expected values are those of spec/95_test_vectors.md or are worked by hand from the rules
named. First the decoder on words written out from 30_encoding.md, then one ill-formed term for each check of WellFormed and of
Cfg.wf, then the requests, then a witness for the hypotheses of every statement that has some. -/

namespace Sys2Proof.Tests

open Sys2Proof.Machine Sys2Proof.Safety

/-! ## Small states -/

/-- The reset state with waiting bytes, a host's list and a schedule. -/
def start (q : List Byte) (ws : List Word) (ts : List Turn) : State :=
  { State.reset with rxq := q, reqs := ws, sched := ts }

/-- The same while the generator plays. -/
def busy (ws : List Word) (ts : List Turn) : State := { start [] ws ts with genBusy := true }

/-- Whether an outcome is a next state of which p holds. -/
def nextIs (o : Host.Outcome State Fault Refusal) (p : State → Bool) : Bool :=
  match o with
  | .next t => p t
  | .fault _ => false
  | .refused _ => false

/-- The frame of 95_test_vectors.md W1. -/
def w1 : List Byte := [0x19#8, 0x05#8, 0xDC#8, 0x00#8, 0x00#8, 0x00#8, 0x00#8, 0x01#8, 0x90#8, 0x0D#8]

/-- The data bytes F2 of 95_test_vectors.md 2.6. -/
def f2 : List Byte := [0x1E#8, 0x06#8, 0x40#8, 0x00#8, 0x7B#8, 0x00#8, 0x0C#8, 0x00#8, 0x64#8]

/-- Ten bytes that the machine's own check function accepts. -/
def goodFrame : List Byte :=
  [0#8, 0#8, 0#8, 0#8, 0#8, 0#8, 0#8, 0#8, 0#8,
   Config.cfg.tlmCheck #v[0#8, 0#8, 0#8, 0#8, 0#8, 0#8, 0#8, 0#8, 0#8]]

/-! ## Decoding: words written out from R75 and R76 (95_test_vectors.md 2.1) -/

theorem test_decode_nop : decode 0b00000000000000000000000000000000#32 = .ok .nop := by decide

theorem test_decode_encThr :
    decode 0b00010000000000011111111111111111#32 = .ok (.encThr 0xFFFF#16 true) := by decide

theorem test_decode_encThr_half :
    decode 0b00010000000000010010000000000000#32 = .ok (.encThr 0x2000#16 true) := by decide

theorem test_decode_encCmd :
    decode 0b00100000000000010000011111111111#32 = .ok (.encCmd 2047#11 true) := by decide

theorem test_decode_encCmd_no_tbit :
    decode 0b00100000000000000000000000101111#32 = .ok (.encCmd 47#11 false) := by decide

theorem test_decode_genTrain : decode 0b00110000000000000000000000000000#32 = .ok .genTrain := by decide

theorem test_decode_send : decode 0b01000000000000000000000000000000#32 = .ok .send := by decide

theorem test_decode_tlmDecode : decode 0b01010000000000000000000000000000#32 = .ok .tlmDecode := by decide

theorem test_decode_illegal :
    [0x00000001#32, 0x30010000#32, 0x40000001#32, 0x50000100#32].map decode = List.replicate 4 (.error .operandBits) ∧
    [0x10020000#32, 0x1FFE0000#32, 0x20020000#32].map decode = List.replicate 3 (.error .reservedBits) ∧
    decode 0x20000800#32 = .error .codeTooWide ∧ decode 0x20008000#32 = .error .codeTooWide ∧
    [0x60000000#32, 0x70000000#32, 0xF0000000#32].map decode = List.replicate 3 (.error .reservedOp) := by decide

theorem test_encode_words :
    [Instr.nop, .encThr 0x2000#16 true, .encCmd 47#11 false, .genTrain, .send, .tlmDecode].map encode =
    [0x00000000#32, 0x10012000#32, 0x2000002F#32, 0x30000000#32, 0x40000000#32, 0x50000000#32] := by decide

theorem test_decodeTableWord :
    decodeTableWord 32 0x10012000 = some (.encThr 0x2000#16 true) ∧ decodeTableWord 32 0x60000000 = none := by decide

/-! ## Well-formedness: one ill-formed term for each check -/

theorem test_wf_fields_ok :
    [0x00000000#32, 0x1001FFFF#32, 0x200107FF#32, 0x30000000#32, 0x40000000#32, 0x50000000#32].all
      (fun w => (fieldsOf w).wf) = true := by decide

theorem test_wf_op_refused :
    (Fields.mk 6#4 0#11 false 0#16).opAssigned = false ∧ (Fields.mk 6#4 0#11 false 0#16).wf = false := by decide

theorem test_wf_rsv_refused :
    (Fields.mk 1#4 1#11 false 0#16).rsvZero = false ∧ (Fields.mk 1#4 1#11 false 0#16).wf = false := by decide

theorem test_wf_t_refused :
    (Fields.mk 3#4 0#11 true 0#16).tAllowed = false ∧ (Fields.mk 3#4 0#11 true 0#16).wf = false := by decide

theorem test_wf_imm_refused :
    (Fields.mk 2#4 0#11 false 0x0800#16).immAllowed = false ∧ (Fields.mk 2#4 0#11 false 0x0800#16).wf = false ∧
    (Fields.mk 5#4 0#11 false 0x0100#16).immAllowed = false ∧ (Fields.mk 5#4 0#11 false 0x0100#16).wf = false := by decide

theorem test_wf_throttle_refused :
    (ThrArg.dec (1 / 3)).wf = false ∧ (ThrArg.dec 2).wf = false ∧ (ThrArg.dec (-2)).wf = true ∧
    assemble (.encThr (.dec 2) false) = none := by decide +kernel

theorem test_wf_code_refused :
    (Stmt.encCmd 2048 false).wf = false ∧ (Stmt.encCmd 2047 false).wf = true ∧
    assemble (.encCmd 2048 false) = none := by decide

theorem test_wf_cfg_ok : Cfg.ex1.wf = true ∧ { Cfg.ex1 with durW := 6 }.wf = true := by decide

theorem test_wf_cfg_times_refused :
    { Cfg.ex1 with t0h := 0 }.wf = false ∧ { Cfg.ex1 with t0h := 15 }.timesOrdered = false ∧
    { Cfg.ex1 with t1h := 20 }.timesOrdered = false := by decide

theorem test_wf_cfg_pause_refused : { Cfg.ex1 with tPause := 0 }.pausePositive = false ∧
    { Cfg.ex1 with tPause := 0 }.wf = false := by decide

theorem test_wf_cfg_low_time_refused : { Cfg.ex1 with durW := 5 }.lowTimesFit = false ∧
    { Cfg.ex1 with durW := 5 }.wf = false := by decide

/-- The case of log entry 2: R6(c) holds, and yet the high time 9 does not fit in 3 bits. -/
theorem test_wf_cfg_high_time_refused :
    { Cfg.ex1 with tBit := 10, t1h := 9, t0h := 8, tPause := 1, durW := 3 }.lowTimesFit = true ∧
    { Cfg.ex1 with tBit := 10, t1h := 9, t0h := 8, tPause := 1, durW := 3 }.highTimesFit = false ∧
    { Cfg.ex1 with tBit := 10, t1h := 9, t0h := 8, tPause := 1, durW := 3 }.wf = false := by decide

theorem test_wf_cfg_poles_refused : { Cfg.ex1 with motorPoles := 13 }.polesEven = false ∧
    { Cfg.ex1 with motorPoles := 0 }.wf = false := by decide

theorem test_wf_cfg_depth_refused : { Cfg.ex1 with rxDepth := 9 }.fifoHoldsFrame = false ∧
    { Cfg.ex1 with rxDepth := 9 }.wf = false := by decide

theorem test_wf_cfg_enable_refused : { Cfg.ex1 with tlmEnSeq := [48#11] }.enableCodesOk = false ∧
    { Cfg.ex1 with tlmEnReps := 0 }.wf = false := by decide

theorem test_wf_cfg_width_refused : { Cfg.ex1 with durW := 33 }.entryFitsWord = false ∧
    { Cfg.ex1 with durW := 33 }.wf = false := by decide

/-! ## The shared functions -/

/-- 95_test_vectors.md 2.2. -/
theorem test_checksum :
    [0x000#12, 0x001#12, 0x0F0#12, 0xF00#12, 0x82F#12, 0x123#12, 0xABC#12, 0x5A5#12].map checksum =
    [0x0#4, 0x1#4, 0xF#4, 0xF#4, 0x5#4, 0x0#4, 0xD#4, 0xA#4] := by decide

/-- 95_test_vectors.md 2.3, both rounding modes at the ties. -/
theorem test_throttlePayload :
    [0x8000#16, 0x0000#16, 0x0001#16, 0x0004#16, 0x0005#16, 0x0200#16, 0x0600#16, 0x0A00#16, 0x2000#16, 0x4000#16, 0x7FFF#16].map
      (fun i => (throttlePayload .halfEven (thrOperand i)).toNat) = [0, 0, 47, 47, 48, 109, 235, 359, 1047, 2047, 2047] ∧
    [0x0200#16, 0x0600#16, 0x0A00#16].map (fun i => (throttlePayload .halfUp (thrOperand i)).toNat) = [110, 235, 360] := by
  decide +kernel

/-- 90_conflicts.md C3 and 42_telemetry.md R160 differ on the W1 bytes: 19 ^ 05 ^ DC ^ 01 ^ 90 is 0x51. -/
theorem test_checks_differ :
    xorFold #v[0x19#8, 0x05#8, 0xDC#8, 0x00#8, 0x00#8, 0x00#8, 0x00#8, 0x01#8, 0x90#8] = 0x51#8 ∧
    crc807 #v[0x19#8, 0x05#8, 0xDC#8, 0x00#8, 0x00#8, 0x00#8, 0x00#8, 0x01#8, 0x90#8] = 0x0D#8 := by decide +kernel

/-- 95_test_vectors.md 2.5. -/
theorem test_train :
    (trainOf Cfg.ex1 0x82F5#16).toList.map (·.toNat) =
      [15, 5, 7, 13, 7, 13, 7, 13, 7, 13, 7, 13, 15, 5, 7, 13, 15, 5, 15, 5, 15, 5, 15, 5, 7, 13, 15, 5, 7, 13, 15, 45] ∧
    ((trainOf Cfg.ex1 0x0000#16).toList.map (·.toNat)).sum = 360 ∧
    ((trainOf Cfg.ex1 0x0000#16)[31]).toNat = 53 := by decide +kernel

/-- R135 on 95_test_vectors.md 2.5, FRAME = 0x82F5: the first two bits are 1 and 0, the last is 1 and takes the pause; and the line
cut off after 17 ticks. -/
theorem test_line :
    (lineTicks (trainOf Cfg.ex1 0x82F5#16)).take 40 =
      List.replicate 15 true ++ List.replicate 5 false ++ List.replicate 7 true ++ List.replicate 13 false ∧
    (lineTicks (trainOf Cfg.ex1 0x82F5#16)).drop 300 = List.replicate 15 true ++ List.replicate 45 false ∧
    lineUntilReset (trainOf Cfg.ex1 0x82F5#16) 17 = List.replicate 15 true ++ [false, false] := by decide +kernel

/-- 95_test_vectors.md Program D: `ARM 1 ; TLM_ENABLE ; TX_THR 0.25, 0`. -/
theorem test_pseudo_requests :
    actWords (expand Cfg.ex1 (.arm 1) ++ expand Cfg.ex1 .tlmEnable ++ expand Cfg.ex1 (.txThr (.dec (1 / 4)) false)) =
    some [0x20000000#32, 0x30000000#32, 0x40000000#32, 0x2001000D#32, 0x30000000#32, 0x40000000#32,
      0x2001000D#32, 0x30000000#32, 0x40000000#32, 0x10001000#32, 0x30000000#32, 0x40000000#32] := by decide +kernel

/-! ## The requests, one step each -/

/-- R103's example. -/
theorem test_nop : nextIs (exec .nop { start w1 [] [] with reqIllegal := true }) (fun t =>
    statusWord t == 0x00000000#32 && t.rxq == w1) = true := by decide

/-- 95_test_vectors.md 2.3. -/
theorem test_encThr : nextIs (exec (.encThr 0x2000#16 true) (start [] [] [])) (fun t => t.frame == 0x82F5#16) = true ∧
    nextIs (exec (.encThr 0x8000#16 true) (start [] [] [])) (fun t => t.frame == 0x0011#16) = true := by decide +kernel

/-- 95_test_vectors.md 2.4. -/
theorem test_encCmd : nextIs (exec (.encCmd 13#11 true) (start [] [] [])) (fun t => t.frame == 0x01BA#16) = true ∧
    nextIs (exec (.encCmd 2047#11 true) (start [] [] [])) (fun t => t.frame == 0xFFFF#16) = true := by decide

/-- R130, R133: under every configuration TRAIN becomes the train of FRAME. -/
theorem test_genTrain (s : State) :
    exec .genTrain s = .next ((s.setTrain (trainOf Config.cfg s.frame)).setReqIllegal false) := rfl

/-- 95_test_vectors.md Program B, line 2: SEND right after reset sends the reset train. -/
theorem test_send : nextIs (exec .send State.reset) (fun t => t.genBusy && t.sent.length == 1) = true ∧
    ∀ t, exec .send State.reset = .next t → t.sent = [trainOf Config.cfg 0#16] := by
  refine ⟨by decide, ?_⟩
  intro t h
  injection h with h
  rw [← h]
  rfl

/-- 95_test_vectors.md 2.6, T6 (AA 55 F2 9A) and T7 (the W1 frame, then 19 05 DC). -/
theorem test_tlmDecode :
    (let t := tlmDecodeWith Cfg.ex1 (start ([0xAA#8, 0x55#8] ++ f2 ++ [0x9A#8]) [] [])
     [t.tlmTemp.toNat, t.tlmVolt.toNat, t.tlmCurr.toNat, t.tlmCons.toNat, t.tlmErpm.toNat] = [30, 1600, 123, 12, 100] ∧
     t.rxq = [] ∧ statusWord t = 0x5#32) ∧
    (let t := tlmDecodeWith Cfg.ex1 (start (w1 ++ [0x19#8, 0x05#8, 0xDC#8]) [] [])
     t.tlmTemp = 0#8 ∧ t.rxq = [] ∧ statusWord t = 0x3#32) := by decide +kernel

/-- 95_test_vectors.md 2.6, T1 and T2, under both values of SHORT_READ_DRAINS. -/
theorem test_tlmDecode_short :
    (let t := tlmDecodeWith Cfg.ex1 (start (w1.take 7) [] [])
     (t.rxq, statusWord t) = ([], 0x2#32)) ∧
    (let t := tlmDecodeWith { Cfg.ex1 with shortReadDrains := false } (start (w1.take 7) [] [])
     (t.rxq, statusWord t) = (w1.take 7, 0x2#32)) := by decide +kernel

/-- 95_test_vectors.md 2.6: the readouts after T4, and with two poles. -/
theorem test_readouts :
    (let t := tlmDecodeWith Cfg.ex1 (start (f2 ++ [0x9A#8]) [] [])
     temperatureC t = 30 ∧ voltageV t = 16 ∧ currentA t = 123 / 100 ∧ consumptionMAh t = 12 ∧
     electricalRPM t = 10000 ∧ measuredRPM Cfg.ex1 t = some (10000 / 7)) ∧
    mechanicalRPM { Cfg.ex1 with motorPoles := 2 } { State.reset with tlmErpm := 400#16 } = 40000 ∧
    measuredRPM Cfg.ex1 State.reset = none := by decide +kernel

/-! ## The step -/

/-- 95_test_vectors.md Program B, line 3. -/
theorem test_step_illegal :
    nextIs (step (start [] [0x70000000#32] [.host])) (fun t => statusWord t == 0x8#32 && t.frame == 0#16) = true := by decide

theorem test_withFetchWord :
    nextIs (step (State.reset.withFetchWord 32 0x20010000)) (fun t => t.frame == 0x0011#16) = true ∧
    nextIs (step (State.reset.withFetchWord 32 0x40000000)) (fun t => t.genBusy) = true := by decide

/-- R39: a host read while the generator plays. -/
theorem test_step_read : nextIs (step { busy [] [.read 1#6] with frame := 0x82F5#16 })
    (fun t => t.reads == [(1#6, 0x82F5#32)] && t.genBusy) = true := by decide

theorem test_step_done : nextIs (step (busy [0#32] [.done])) (fun t => !t.genBusy && t.reqs == [0#32]) = true := by decide

theorem test_step_rst : nextIs (step { busy [] [.rst] with frame := 0x82F5#16, tlmValid := true, rxq := w1 })
    (fun t => !t.genBusy && t.frame == 0#16 && statusWord t == 0#32 && t.rxq == []) = true := by decide

theorem test_step_idle : nextIs (step (start w1 [0#32] [])) (fun t => t.rxq == w1 && t.reqs == [0#32]) = true := by decide

/-- R36 at RX_DEPTH = 32: 31 bytes take one more; 32 bytes lose the new or the oldest one. -/
theorem test_rxPush :
    (rxPush Cfg.ex1 9#8 .newest (start (List.replicate 31 1#8) [] [])).rxq = List.replicate 31 1#8 ++ [9#8] ∧
    (rxPush Cfg.ex1 9#8 .newest (start (List.replicate 32 1#8) [] [])).rxq = List.replicate 32 1#8 ∧
    (rxPush Cfg.ex1 9#8 .oldest (start (7#8 :: List.replicate 31 1#8) [] [])).rxq =
      List.replicate 31 1#8 ++ [9#8] := by decide +kernel

/-- R38: indices 7, 40 and 63, and the entries of TRAIN. -/
theorem test_regRead (s : State) : regRead s 7#6 = 0#32 ∧ regRead s 40#6 = 0#32 ∧ regRead s 63#6 = 0#32 ∧
    regRead s 8#6 = (s.train[0]).setWidth 32 ∧ regRead s 39#6 = (s.train[31]).setWidth 32 :=
  ⟨rfl, rfl, rfl, rfl, rfl⟩

/-- R31: each field of STATUS in its place. -/
theorem test_statusWord :
    statusWord { State.reset with tlmLast := .badsum } = 0x3#32 ∧ statusWord { State.reset with tlmValid := true } = 0x4#32 ∧
    statusWord { State.reset with reqIllegal := true } = 0x8#32 := by decide

/-- R106, 95_test_vectors.md P3: a built frame is consistent and a flipped checksum bit is not. -/
theorem test_frameOK : frameOK 0x82F5#16 = true ∧
    [0x82F4#16, 0x82F7#16, 0x82F1#16, 0x82FD#16].all (fun f => !frameOK f) = true := by decide

/-! ## The host's duties, on the frames of 95_test_vectors.md Program A and D -/

/-- EX1 with an arming time of 0.7 s, so that two frames of 360 ticks of 1 ms span it. -/
def armCfg : Cfg := { Cfg.ex1 with armTime := 7 / 10 }

/-- Two disarmed frames, 0.72 s, arm the ESC. -/
theorem test_armed : Armed armCfg (1 / 1000) [0x0000#16, 0x0000#16] := by
  refine ⟨[], [0x0000#16, 0x0000#16], [], by simp, by simp, ?_, ?_⟩
  · simp [disarmedFrame, framePayload]
  · unfold SpansArmTime armCfg
    decide +kernel

/-- R220: the frames of Program A. -/
theorem test_hostArms : HostArms armCfg (1 / 1000) [0x0000#16, 0x0000#16, 0x82F5#16] := by
  intro a f b h ht
  have h0 : throttleFrame 0x0000#16 = false := by decide
  rcases a with _ | ⟨x, _ | ⟨y, _ | ⟨z, a⟩⟩⟩ <;> simp only [List.nil_append, List.cons_append, List.cons.injEq] at h
  · rw [← h.1, h0] at ht; cases ht
  · rw [← h.2.1, h0] at ht; cases ht
  · rw [← h.1, ← h.2.1]; exact test_armed
  · simp at h

/-- R221: the enable sequence of Program D after arming, and the wait: EX1's settle time of 1 s is waited out, and 0.9 s is not
enough. -/
theorem test_telemetryEnabled :
    TelemetryEnabled armCfg (1 / 1000) [0x0000#16, 0x0000#16, 0x01BA#16, 0x01BA#16] 1 ∧
    ¬ TelemetryEnabled armCfg (1 / 1000) [0x0000#16, 0x0000#16, 0x01BA#16, 0x01BA#16] (9 / 10) := by
  refine ⟨⟨⟨[0x0000#16, 0x0000#16], [0x01BA#16, 0x01BA#16], by simp, test_armed, by decide +kernel⟩, ?_⟩, ?_⟩
  · unfold SettleWaited; decide +kernel
  · rintro ⟨_, h⟩
    revert h
    unfold SettleWaited
    decide +kernel

/-- Log entry 20: one disarmed frame of 0.36 s does not span 0.7 s, however long the host then pauses. -/
theorem test_not_armed_by_pause : ¬ SpansArmTime armCfg (1 / 1000) 1 := by
  unfold SpansArmTime armCfg
  decide +kernel

/-- R222: a period of 361 ticks is longer than a transmission, and one of 360 is not. -/
theorem test_period : PeriodAllowsSend Cfg.ex1 361 ∧ ¬ PeriodAllowsSend Cfg.ex1 360 := by
  simp [PeriodAllowsSend, Cfg.ex1]

/-! ## Witnesses: for every statement with hypotheses, concrete values that meet all of them together -/

/-- A busy block, the reset turn, then the host's turn with GEN_TRAIN. -/
theorem witness_ResetTurnRestoresBlock :
    let s := busy [0x30000000#32] [.rst, .host]
    s.sched = .rst :: [.host] ∧ s.reqs = 0x30000000#32 :: [] ∧ [Turn.host] = .host :: [] ∧
      decode 0x30000000#32 = .ok .genTrain := ⟨rfl, rfl, rfl, by decide⟩

theorem witness_EncodeOfDecode : decode 0x200107FF#32 = .ok (.encCmd 2047#11 true) := by decide

/-- A word for each clause: its OP field, and its other fields zero. -/
theorem witness_DecodeIsRuleR80 :
    (0x00000000#32).extractLsb' 28 4 = 0#4 ∧ (0x00000000#32).extractLsb' 0 28 = 0#28 ∧
    (0x1001FFFF#32).extractLsb' 28 4 = 1#4 ∧ (0x1001FFFF#32).extractLsb' 17 11 = 0#11 ∧
    (0x200107FF#32).extractLsb' 28 4 = 2#4 ∧ (0x200107FF#32).extractLsb' 17 11 = 0#11 ∧
    (0x200107FF#32).extractLsb' 11 5 = 0#5 ∧
    (0x30000000#32).extractLsb' 28 4 = 3#4 ∧ (0x30000000#32).extractLsb' 0 28 = 0#28 ∧
    (0x40000000#32).extractLsb' 28 4 = 4#4 ∧ (0x40000000#32).extractLsb' 0 28 = 0#28 ∧
    (0x50000000#32).extractLsb' 28 4 = 5#4 ∧ (0x50000000#32).extractLsb' 0 28 = 0#28 := by decide

theorem witness_DecodeAgreesWithTable :
    TableRow.mk "ENC_CMD" 0x20000000#32 0xFFFEF800#32 ∈ opcodeTable ∧
    (TableRow.mk "ENC_CMD" 0x20000000#32 0xFFFEF800#32).covers 0x200107FF#32 = true ∧
    (TableRow.mk "ENC_CMD" 0x20000000#32 0xFFFEF800#32).covers 0x20000800#32 = false := by decide

/-- Both ends of the range of k, a rational that no k gives, and the codes at the edge. -/
theorem witness_AssemblerWords :
    ((-32768 : Int) ≤ -32768 ∧ (-32768 : Int) ≤ 32767) ∧ ((-32768 : Int) ≤ 32767 ∧ (32767 : Int) ≤ 32767) ∧
    (∀ k : Int, -32768 ≤ k → k ≤ 32767 → (2 : Rat) * 16384 ≠ k) ∧ (2047 : Nat) ≤ 2047 ∧ (2047 : Nat) < 2048 := by
  refine ⟨by decide, by decide, ?_, by decide, by decide⟩
  intro k _ h2 h
  have : (32768 : Int) = k := by exact_mod_cast (show ((32768 : Int) : Rat) = k by norm_num at h ⊢; exact h)
  omega

theorem witness_ChecksumIsNibbleXor : (0 : Nat) < 4 ∧ (3 : Nat) < 4 := by decide

theorem witness_ChecksumFlipDetected : frameOK 0x82F5#16 = true ∧ (0 : Nat) < 4 ∧ (3 : Nat) < 4 := by decide

/-- The tie 62.5 of R104, and 0. -/
theorem witness_RoundIsNearest : (0 : Rat) ≤ 125 / 2 ∧ (0 : Rat) ≤ 0 := by norm_num

theorem witness_PayloadRange :
    0 < thrOperand 1#16 ∧ 0x4000 ≤ thrOperand 0x4000#16 ∧ 0x4000 ≤ thrOperand 0x7FFF#16 ∧ thrOperand 5#16 = 5 ∧
    thrOperand 0xFFFF#16 ≤ 0 := by decide

theorem witness_PayloadMonotone :
    thrOperand 0x8000#16 ≤ thrOperand 0x7FFF#16 ∧ thrOperand 4#16 ≤ thrOperand 5#16 := by decide

theorem witness_EveryThrottlePayloadReached :
    5 ≤ thrOperand 5#16 ∧ thrOperand 5#16 ≤ 16384 ∧ 5 ≤ thrOperand 0x4000#16 ∧ thrOperand 0x4000#16 ≤ 16384 ∧
    48 ≤ (48#11).toNat ∧ 48 ≤ (2047#11).toNat := by decide

theorem witness_RoundModesPartAtTies :
    1 ≤ thrOperand 0x0200#16 ∧ thrOperand 0x0200#16 ≤ 16384 ∧ thrOperand 0x0200#16 % 1024 = 512 ∧
    1 ≤ thrOperand 0x4000#16 ∧ thrOperand 0x4000#16 ≤ 16384 := by decide

theorem witness_CommandAndThrottleFramesMeet :
    48 ≤ (48#11).toNat ∧ 1 ≤ (1#11).toNat ∧ (1#11).toNat ≤ 46 ∧ (46#11).toNat ≤ 46 := by decide

/-- EX1 is well-formed; it serves every statement about all well-formed configurations and all frames. -/
theorem witness_TrainEntries : Cfg.ex1.wf = true ∧ (0 : Nat) < 16 ∧ (15 : Nat) < 16 := by decide

theorem witness_TrainPairsSumToBitPeriod :
    Cfg.ex1.wf = true ∧ ((0 : Nat) < 32 ∧ (31 : Nat) < 32) ∧ (0 : Nat) < 15 ∧ (14 : Nat) < 15 := by decide

theorem witness_TransmissionTicks : Cfg.ex1.wf = true := by decide

theorem witness_LastEntryHasThePause :
    Cfg.ex1.wf = true ∧ (14 : Nat) < 15 ∧ (0x82F5#16).getLsbD (15 - 14) = (0x82F4#16).getLsbD 0 ∧
    (0x8000#16).getLsbD (15 - 0) = (0x82F5#16).getLsbD 0 := by decide

theorem witness_TrainCarriesFrame : Cfg.ex1.wf = true := by decide

/-- The first and the last bit, the first and the last tick of each, and the ends of the pause. -/
theorem witness_LineShowsTrain :
    Cfg.ex1.wf = true ∧ ((0 : Nat) < 16 ∧ (15 : Nat) < 16) ∧ (0 < Cfg.ex1.tBit ∧ 19 < Cfg.ex1.tBit) ∧
    (0 < Cfg.ex1.tPause ∧ 39 < Cfg.ex1.tPause) := by decide

theorem witness_GenTrainResult :
    decode 0x30000000#32 = .ok .genTrain ∧ ∃ t, exec .genTrain State.reset = .next t := ⟨by decide, _, rfl⟩

/-- Both encoder requests, GEN_TRAIN after it, and the two SENDs. -/
theorem witness_StaleTrainWithoutGenTrain :
    (∃ a b g c, exec (.encThr 0x4000#16 false) State.reset = .next a ∧ exec .send a = .next b ∧
      exec .genTrain a = .next g ∧ exec .send g = .next c) ∧
    ∃ a b g c, exec (.encCmd 1#11 true) State.reset = .next a ∧ exec .send a = .next b ∧
      exec .genTrain a = .next g ∧ exec .send g = .next c :=
  ⟨⟨_, _, _, _, rfl, rfl, rfl, rfl⟩, ⟨_, _, _, _, rfl, rfl, rfl, rfl⟩⟩

theorem witness_TransmitThrottleSequence :
    let s := start [] [0x10012000#32, 0x30000000#32, 0x40000000#32] [.host, .host, .host]
    actWords (expand Config.cfg (.txThr (.hex 0x2000#16) true)) = some [0x10012000#32, 0x30000000#32, 0x40000000#32] ∧
    s.genBusy = false ∧ s.reqs = [0x10012000#32, 0x30000000#32, 0x40000000#32] ++ [] ∧
    s.sched = .host :: .host :: .host :: [] := ⟨by decide, rfl, rfl, rfl⟩

/-- No byte, and nine. -/
theorem witness_TlmShortRead :
    (start [] [] []).rxq.length < 10 ∧ (start (w1.take 9) [] []).rxq.length < 10 := by decide

/-- Ten bytes alone, and behind an older one. -/
theorem witness_TlmAcceptsNewestFrame :
    (start goodFrame [] []).rxq = [] ++ [0#8, 0#8, 0#8, 0#8, 0#8, 0#8, 0#8, 0#8, 0#8,
      Config.cfg.tlmCheck #v[0#8, 0#8, 0#8, 0#8, 0#8, 0#8, 0#8, 0#8, 0#8]] ∧
    (start (0xAA#8 :: goodFrame) [] []).rxq = [0xAA#8] ++ [0#8, 0#8, 0#8, 0#8, 0#8, 0#8, 0#8, 0#8, 0#8,
      Config.cfg.tlmCheck #v[0#8, 0#8, 0#8, 0#8, 0#8, 0#8, 0#8, 0#8, 0#8]] ∧
    Config.cfg.tlmCheck #v[0#8, 0#8, 0#8, 0#8, 0#8, 0#8, 0#8, 0#8, 0#8] =
      Config.cfg.tlmCheck #v[0#8, 0#8, 0#8, 0#8, 0#8, 0#8, 0#8, 0#8, 0#8] := ⟨rfl, rfl, rfl⟩

/-- A byte that differs from its successor: no check function gives both. -/
theorem differs (b : Byte) : b ≠ b + 1#8 := by
  intro h
  have := congrArg BitVec.toNat h
  have hb := b.isLt
  simp at this
  omega

theorem witness_TlmRejectsBadChecksum :
    let k := Config.cfg.tlmCheck #v[0#8, 0#8, 0#8, 0#8, 0#8, 0#8, 0#8, 0#8, 0#8]
    (start [0#8, 0#8, 0#8, 0#8, 0#8, 0#8, 0#8, 0#8, 0#8, k + 1#8] [] []).rxq =
      [] ++ [0#8, 0#8, 0#8, 0#8, 0#8, 0#8, 0#8, 0#8, 0#8, k + 1#8] ∧ k ≠ k + 1#8 := ⟨rfl, differs _⟩

/-- The accepting decode of `goodFrame`. -/
theorem goodFrame_accepted : ∃ t, exec .tlmDecode (start goodFrame [] []) = .next t ∧ t.tlmLast = .ok := by
  refine ⟨_, rfl, ?_⟩
  have hl : ¬ (start goodFrame [] []).rxq.length < 10 := by simp [start, goodFrame]
  have hk : tlmCheckOk Config.cfg (newest10 (start goodFrame [] []).rxq) = true := by
    have hn : newest10 (start goodFrame [] []).rxq = #v[0#8, 0#8, 0#8, 0#8, 0#8, 0#8, 0#8, 0#8, 0#8,
        Config.cfg.tlmCheck #v[0#8, 0#8, 0#8, 0#8, 0#8, 0#8, 0#8, 0#8, 0#8]] := rfl
    rw [hn]
    simp only [tlmCheckOk, beq_iff_eq]
    rfl
  obtain ⟨h, _⟩ | ⟨_, _, e⟩ | ⟨_, h, _⟩ := tlmDecodeWith_cases (start goodFrame [] []) Config.cfg
  · exact absurd h hl
  · rw [e]; rfl
  · rw [hk] at h; cases h

theorem witness_ChecksumByteFlipRejected :
    let b := Config.cfg.tlmCheck #v[0#8, 0#8, 0#8, 0#8, 0#8, 0#8, 0#8, 0#8, 0#8]
    9 ≤ (List.replicate 9 0#8).length ∧ (start goodFrame [] []).rxq = List.replicate 9 0#8 ++ [b] ∧ b + 1#8 ≠ b ∧
    ∃ t, exec .tlmDecode (start goodFrame [] []) = .next t ∧ t.tlmLast = .ok :=
  ⟨by decide, rfl, (differs _).symm, goodFrame_accepted⟩

/-- Ten waiting bytes and two decodes. The other way to meet the first hypothesis is a configuration that drains short reads: EX1 is
one, and a well-formed configuration with the other value exists too. -/
theorem witness_SecondDecodeIsShort :
    (∃ t u, 10 ≤ (start w1 [] []).rxq.length ∧ exec .tlmDecode (start w1 [] []) = .next t ∧ exec .tlmDecode t = .next u) ∧
    Cfg.ex1.shortReadDrains = true ∧ { Cfg.ex1 with shortReadDrains := false }.wf = true :=
  ⟨⟨_, _, by decide, rfl, rfl⟩, rfl, by decide⟩

/-- A FIFO with room, and a full one with either loss. -/
theorem witness_RxPushOutcomes :
    (start [] [] [.rx 1#8 .newest]).sched = .rx 1#8 .newest :: [] ∧
    (start [] [] [.rx 1#8 .newest]).rxq.length < Config.cfg.rxDepth ∧
    (start (List.replicate Config.cfg.rxDepth 0#8) [] [.rx 1#8 .newest]).sched = .rx 1#8 .newest :: [] ∧
    (start (List.replicate Config.cfg.rxDepth 0#8) [] [.rx 1#8 .oldest]).sched = .rx 1#8 .oldest :: [] ∧
    Config.cfg.rxDepth ≤ (start (List.replicate Config.cfg.rxDepth 0#8) [] [.rx 1#8 .oldest]).rxq.length := by
  have h := Config.ten_le_rxDepth
  refine ⟨rfl, ?_, rfl, rfl, by simp [start]⟩
  simp [start, State.reset]
  omega

theorem witness_BytesArriveInOrder :
    let s := start [7#8] [] [.rx 1#8 .newest, .rx 2#8 .oldest, .host]
    s.sched = [(1#8, Loss.newest), (2#8, Loss.oldest)].map (fun p => Turn.rx p.1 p.2) ++ [.host] ∧
    s.rxq.length + [(1#8, Loss.newest), (2#8, Loss.oldest)].length ≤ Config.cfg.rxDepth := by
  have h := Config.ten_le_rxDepth
  refine ⟨rfl, ?_⟩
  simp [start]
  omega

theorem witness_ReadoutUnits : Cfg.ex1.wf = true := by decide

theorem witness_RegisterMap :
    (0 : Nat) < 32 ∧ (31 : Nat) < 32 ∧ 40 ≤ (40#6).toNat ∧ 40 ≤ (63#6).toNat ∧
    32 < { Cfg.ex1 with durW := 33 }.durW := by decide

theorem witness_HostReadHasNoEffect :
    (start [] [] [.read 39#6]).sched = .read 39#6 :: [] ∧ (busy [] [.read 0#6]).sched = .read 0#6 :: [] := ⟨rfl, rfl⟩

theorem witness_StepRunsDecodedRequest :
    let s := start [] [0x10012000#32] [.host]
    (s.sched = .host :: [] ∧ s.reqs = 0x10012000#32 :: [] ∧ s.genBusy = false ∧
      decode 0x10012000#32 = .ok (.encThr 0x2000#16 true)) ∧
    decodeTableWord 32 0x50000000 = some .tlmDecode := by
  refine ⟨⟨rfl, rfl, rfl, by decide⟩, by decide⟩

theorem witness_IllegalRequestOnlySetsFlag :
    let s := start [] [0x70000000#32, 0#32] [.host, .host]
    s.sched = .host :: [.host] ∧ s.reqs = 0x70000000#32 :: [0#32] ∧ s.genBusy = false ∧
      decode 0x70000000#32 = .error .reservedOp ∧ decode 0#32 = .ok .nop := ⟨rfl, rfl, rfl, by decide, by decide⟩

theorem witness_EveryRequestWritesIllegalFlag :
    let s := start [] [0x20000800#32] [.host]
    s.sched = .host :: [] ∧ s.reqs = 0x20000800#32 :: [] ∧ s.genBusy = false := ⟨rfl, rfl, rfl⟩

theorem witness_BusyBlockTakesNoRequest :
    ((busy [0#32] [.host]).sched = .host :: [] ∧ (busy [0#32] [.host]).genBusy = true) ∧
    ((start [] [] [.host]).sched = .host :: [] ∧ (start [] [] [.host]).reqs = []) ∧
    (busy [0#32] [.done]).sched = .done :: [] := ⟨⟨rfl, rfl⟩, ⟨rfl, rfl⟩, rfl⟩

theorem witness_BusyBlockWaitsForDone :
    (busy [0#32] [.host, .read 0#6]).genBusy = true ∧ Turn.done ∉ (busy [0#32] [.host, .read 0#6]).sched ∧
    Turn.rst ∉ (busy [0#32] [.host, .read 0#6]).sched := ⟨rfl, by decide, by decide⟩

/-- Each request completes, TLM_DECODE with each of its three results possible, and a word is illegal. -/
theorem witness_RequestsWriteOnlyTheirState :
    (∀ i : Instr, ∃ t, exec i State.reset = .next t) ∧ (∃ t, exec .tlmDecode (start goodFrame [] []) = .next t ∧ t.tlmLast = .ok) ∧
    decode 0x60000000#32 = .error .reservedOp :=
  ⟨fun i => ⟨_, Laws.exec_eq_after i State.reset⟩, goodFrame_accepted, by decide⟩

/-- Steps that change FRAME, TLM_VALID and TLM_LAST, none of them a reset. -/
theorem witness_RegistersHaveOneWriter :
    (∃ t, step (start [] [0x20010001#32] [.host]) = .next t ∧ t.frame ≠ (start [] [0x20010001#32] [.host]).frame) ∧
    (start [] [0x20010001#32] [.host]).sched.head? ≠ some .rst ∧
    (∃ t, step (start goodFrame [0x50000000#32] [.host]) = .next t ∧
      t.tlmValid ≠ (start goodFrame [0x50000000#32] [.host]).tlmValid) ∧
    (start goodFrame [0x50000000#32] [.host]).sched.head? ≠ some .rst := by
  refine ⟨⟨_, rfl, by decide⟩, by decide, ⟨_, rfl, ?_⟩, by decide⟩
  obtain ⟨t, h, ho⟩ := goodFrame_accepted
  obtain ⟨h1, _⟩ | ⟨_, _, e⟩ | ⟨_, hk, e⟩ := tlmDecodeWith_cases (start goodFrame [] []) Config.cfg
  · simp [start, goodFrame] at h1
  · have hs : (tlmDecodeWith Config.cfg (start goodFrame [] [])).tlmValid = true := by rw [e]; rfl
    exact fun hc => absurd (hs.symm.trans hc) (by decide)
  · injection h with h
    rw [← h, e] at ho
    cases ho

/-- A step that changes TRAIN: GEN_TRAIN after a TRAIN of zeros, which no configuration builds. -/
theorem witness_RegistersHaveOneWriter_train :
    let s := { start [] [0x30000000#32] [.host] with train := Vector.replicate 32 (0#Config.durW) }
    (∃ t, step s = .next t ∧ t.train ≠ s.train) ∧ s.sched.head? ≠ some .rst := by
  refine ⟨⟨_, rfl, ?_⟩, by decide⟩
  intro h
  have h0 := congrArg (fun v : Train => (v[0]).toNat) h
  have ht := trainOf_toNat Config.cfg_wf 0#16 0 (by decide)
  have hd : duration Config.cfg 0#16 0 = Config.cfg.t0h := rfl
  have hp := Cfg.wf_times Config.cfg_wf
  change (trainOf Config.cfg 0#16)[0].toNat = ((Vector.replicate 32 (0#Config.durW))[0]).toNat at h0
  rw [ht, hd] at h0
  simp at h0
  omega

theorem witness_OnlyResetClearsTlmValid :
    let s := { start [] [0x50000000#32] [.host] with tlmValid := true, tlmLast := .ok }
    Turn.rst ∉ s.sched ∧ s.tlmValid = true ∧ s.tlmLast ≠ .none := by decide

/-- A state that is not the reset state and meets the invariant, with the generator playing; and a step from it. -/
theorem witness_InvKeptByEveryStep :
    let s := { start [1#8] [0x20010000#32] [.done] with
      frame := 0x0011#16, sent := [trainOf Config.cfg 0#16], genBusy := true, tlmLast := TlmLast.short }
    Inv s ∧ ∃ t, step s = .next t := by
  have hb : BuiltTrain (trainOf Config.cfg 0#16) := ⟨0#16, by decide, rfl⟩
  refine ⟨⟨by decide, hb, ?_, ?_, ?_, ?_, ?_, ?_⟩, _, rfl⟩
  · intro t ht
    simp only [List.mem_singleton] at ht
    rw [ht]; exact hb
  · have := Config.ten_le_rxDepth
    simp [start]
    omega
  · intro _; exact ⟨rfl, rfl, rfl, rfl, rfl⟩
  · intro h; cases h
  · intro h; cases h
  · intro _; rfl

/-- One machine gets telemetry and is read, the other is not. -/
theorem witness_TelemetryNeverAltersEncoder :
    let s := start w1 [0x40000000#32] [.rx 1#8 .newest, .host, .read 0#6, .done]
    let s' := start [] [0x40000000#32] [.host, .done]
    SameEncoder s s' ∧ encoderTurns s.sched = encoderTurns s'.sched :=
  ⟨⟨rfl, rfl, rfl, rfl, rfl, rfl⟩, by decide⟩

/-- Two machines with different frames. -/
theorem witness_EncoderNeverAltersTelemetry :
    let s := start w1 [0x50000000#32] [.host]
    let s' := { start w1 [0x50000000#32] [.host] with frame := 0x82F5#16, sent := [trainOf Config.cfg 0x82F5#16] }
    SameTelemetry s s' ∧ s.genBusy = s'.genBusy ∧ s.reqs = s'.reqs ∧ s.sched = s'.sched :=
  ⟨⟨rfl, rfl, rfl, rfl, rfl, rfl, rfl, rfl⟩, rfl, rfl, rfl⟩

/-- An illegal word and a SEND, with the generator completing after each turn. -/
theorem witness_TransmissionNeverStops :
    let s := start [] [0x70000000#32, 0x40000000#32] [.host, .done, .host, .done, .rst]
    s.genBusy = false ∧ s.sched = (List.replicate s.reqs.length [Turn.host, Turn.done]).flatten ++ [.rst] :=
  ⟨rfl, by decide⟩

end Sys2Proof.Tests
end

/-! The rules of 00_scope.md: what an accepted configuration meets (R6, R38), and that Round gives a nearest integer (R8). -/

namespace Sys2Proof

/-- R6: a configuration has runs exactly when it passes the check. -/
@[simp] theorem Cfg.accept_isSome_iff_wf (c : Cfg) : c.accept.isSome = true ↔ c.wf = true := by
  unfold Cfg.accept
  split <;> simp [*]

/-- The check in terms of the parameters: R6(a) to R6(f), the bound on T1H (log entry 2) and R38's width. -/
theorem Cfg.wf_iff (c : Cfg) : c.wf = true ↔
    (0 < c.t0h ∧ c.t0h < c.t1h ∧ c.t1h < c.tBit) ∧ 1 ≤ c.tPause ∧
    c.tBit - c.t0h + c.tPause ≤ 2 ^ c.durW - 1 ∧ c.t1h ≤ 2 ^ c.durW - 1 ∧
    (c.motorPoles % 2 = 0 ∧ 2 ≤ c.motorPoles) ∧ 10 ≤ c.rxDepth ∧
    ((∀ k ∈ c.tlmEnSeq, k.toNat ≤ 47) ∧ 1 ≤ c.tlmEnReps) ∧ c.durW ≤ 32 := by
  simp only [Cfg.wf, Cfg.timesOrdered, Cfg.pausePositive, Cfg.lowTimesFit, Cfg.highTimesFit, Cfg.polesEven,
    Cfg.fifoHoldsFrame, Cfg.enableCodesOk, Cfg.entryFitsWord, Bool.and_eq_true, decide_eq_true_eq, List.all_eq_true,
    and_assoc]

/-- Settles O1: acceptance is the check, and the check is the conjunction of its parts. -/
theorem configurationAcceptedIff : Obligations.ConfigurationAcceptedIff :=
  fun c => c.accept_isSome_iff_wf.trans c.wf_iff

namespace Machine

/-- R8: the integer part `n` of a non-negative rational lies at most 1 below it. -/
theorem floor_toNat_bounds {x : Rat} (hx : 0 ≤ x) : (x.floor.toNat : Rat) ≤ x ∧ x < x.floor.toNat + 1 :=
  ⟨Nat.floor_le hx, Nat.lt_floor_add_one x⟩

/-- R8: below the half, Round takes the integer part. -/
theorem roundRat_below (m : RoundMode) {x : Rat} (h : x - x.floor.toNat < 1 / 2) : roundRat m x = x.floor.toNat :=
  if_pos h

/-- R8: above the half, Round takes the next integer. -/
theorem roundRat_above (m : RoundMode) {x : Rat} (h : 1 / 2 < x - x.floor.toNat) :
    roundRat m x = x.floor.toNat + 1 :=
  (if_neg h.not_gt).trans (if_pos h)

/-- R8: exactly halfway, HALF_EVEN takes the even neighbour. -/
theorem roundRat_halfEven_tie {x : Rat} (h : x - x.floor.toNat = 1 / 2) :
    roundRat .halfEven x = if x.floor.toNat % 2 = 0 then x.floor.toNat else x.floor.toNat + 1 :=
  (if_neg h.not_lt).trans (if_neg h.not_gt)

/-- R8: exactly halfway, HALF_UP takes the larger neighbour. -/
theorem roundRat_halfUp_tie {x : Rat} (h : x - x.floor.toNat = 1 / 2) :
    roundRat .halfUp x = x.floor.toNat + 1 :=
  (if_neg h.not_lt).trans (if_neg h.not_gt)

/-- R8: exactly halfway, HALF_EVEN gives an even integer. -/
theorem roundRat_halfEven_tie_even {x : Rat} (h : x - x.floor.toNat = 1 / 2) : roundRat .halfEven x % 2 = 0 := by
  rw [roundRat_halfEven_tie h]
  split <;> omega

/-- R8: exactly halfway, HALF_UP gives an integer above `x`. -/
theorem lt_roundRat_halfUp_tie {x : Rat} (h : x - x.floor.toNat = 1 / 2) : x < roundRat .halfUp x := by
  rw [roundRat_halfUp_tie h, Nat.cast_add_one]
  linarith

/-- R8: exactly halfway, Round takes one of the two neighbours in either mode. -/
theorem roundRat_tie_eq_or (m : RoundMode) {x : Rat} (h : x - x.floor.toNat = 1 / 2) :
    roundRat m x = x.floor.toNat ∨ roundRat m x = x.floor.toNat + 1 := by
  cases m with
  | halfEven => rw [roundRat_halfEven_tie h]; exact ite_eq_or_eq ..
  | halfUp => exact .inr (roundRat_halfUp_tie h)

/-- R8: exactly halfway, the result is 1/2 away in either mode. -/
theorem abs_sub_roundRat_tie (m : RoundMode) {x : Rat} (h : x - x.floor.toNat = 1 / 2) :
    |x - (roundRat m x : Rat)| = 1 / 2 := by
  rcases roundRat_tie_eq_or m h with e | e <;> rw [e]
  · rw [h]; norm_num
  · rw [Nat.cast_add_one, ← sub_sub, h]; norm_num

/-- Settles O15, by where the fractional part of `x` lies against 1/2. -/
theorem roundIsNearest : Obligations.RoundIsNearest := by
  intro m x hx
  obtain ⟨hle, hlt⟩ := floor_toNat_bounds hx
  rcases lt_trichotomy (x - x.floor.toNat) (1 / 2) with h | h | h
  · left
    rw [roundRat_below m h, abs_lt]
    constructor <;> linarith
  · right
    refine ⟨abs_sub_roundRat_tie m h, ?_, ?_⟩
    · rintro rfl; exact roundRat_halfEven_tie_even h
    · rintro rfl; exact lt_roundRat_halfUp_tie h
  · left
    rw [roundRat_above m h, Nat.cast_add_one, abs_lt]
    constructor <;> linarith

end Machine
end Sys2Proof

/-! The shape of one step: the turn it takes, what is left of the schedule, and when the block accepts a request (10_state.md R20,
R41). -/

namespace Sys2Proof.Laws

open Sys2Proof.Machine

/-- A step takes the turn that the schedule names first. -/
theorem stepped_of_sched {s : State} {t : Turn} {ts : List Turn} (h : s.sched = t :: ts) :
    stepped s = turned t (s.setSched ts) := by
  rw [stepped, h]

theorem step_of_sched {s : State} {t : Turn} {ts : List Turn} (h : s.sched = t :: ts) :
    step s = .next (turned t (s.setSched ts)) := by
  rw [step_eq_stepped, stepped_of_sched h]

/-- R194: with no turn left the block is idle. -/
theorem stepped_of_idle {s : State} (h : s.sched = []) : stepped s = s := by
  rw [stepped, h]

/-- A step that goes on is the total step function. -/
theorem step_eq_next_iff {s t : State} : step s = .next t ↔ stepped s = t := by
  simp [step_eq_stepped]

/-- An operation on an accepted request ends in the state that the total function names. -/
theorem exec_eq_next_iff {i : Instr} {s t : State} : exec i s = .next t ↔ after i s = t := by
  simp [exec_eq_after]

/-- R41: a ready block performs the first request of the host's list. -/
theorem hosted_of_ready {s : State} {w : Word} {ws : List Word} (hr : s.reqs = w :: ws) (hb : s.genBusy = false) :
    hosted s = performed w (s.setReqs ws) := by
  simp [hosted, hr, hb]

/-- R41, R222: a busy block, or a host with nothing to ask, leaves the state as it is. -/
theorem hosted_of_waiting {s : State} (h : s.genBusy = true ∨ s.reqs = []) : hosted s = s := by
  obtain ⟨_, e⟩ | ⟨_, e⟩ | ⟨w, ws, hr, hb, _⟩ := hosted_cases s
  · exact e
  · exact e
  · simp [hr, hb] at h

theorem performed_of_ok {w : Word} {i : Instr} (h : decode w = .ok i) (s : State) : performed w s = after i s := by
  rw [performed, h]

theorem performed_of_error {w : Word} {e : Illegal} (h : decode w = .error e) (s : State) :
    performed w s = s.setReqIllegal true := by
  rw [performed, h]

@[simp] theorem performed_reqs (w : Word) (s : State) : (performed w s).reqs = s.reqs := by
  obtain ⟨i, _, e⟩ | ⟨_, _, e⟩ := performed_cases w s <;> simp [e]

@[simp] theorem performed_sched (w : Word) (s : State) : (performed w s).sched = s.sched := by
  obtain ⟨i, _, e⟩ | ⟨_, _, e⟩ := performed_cases w s <;> simp [e]

/-- No agent's move touches the schedule. -/
@[simp] theorem turned_sched (t : Turn) (s : State) : (turned t s).sched = s.sched := by
  cases t with
  | host =>
    change (hosted s).sched = s.sched
    obtain ⟨_, e⟩ | ⟨_, e⟩ | ⟨w, ws, _, _, e⟩ := hosted_cases s <;> simp [e]
  | read k => rfl
  | rx b loss => rw [turned, rxPush_eq_setRxq]; rfl
  | done => rfl
  | rst => rfl

/-- A step uses up one turn of the schedule. -/
@[simp] theorem stepped_sched (s : State) : (stepped s).sched = s.sched.tail := by
  cases h : s.sched with
  | nil => rw [stepped_of_idle h, h]; rfl
  | cons t ts => rw [stepped_of_sched h]; simp

end Sys2Proof.Laws

/-! The invariant of the reachable states: which operation keeps which clause, and that every step keeps all of them (10_state.md R25,
R32, R33, R35; 41_pulse_train.md R133, R134). -/

namespace Sys2Proof.Machine

/-- R101, R106: a built frame is consistent. -/
@[simp] theorem frameOK_makeFrame (p : Payload) (t : Bool) : frameOK (makeFrame p t) = true := by
  rw [frameOK, makeFrame, beq_iff_eq]
  exact BitVec.extractLsb'_append_eq_right.trans (congrArg checksum BitVec.extractLsb'_append_eq_left.symm)

end Sys2Proof.Machine

namespace Sys2Proof.Safety

open Sys2Proof.Machine Sys2Proof.Laws

/-- R133: the train of a consistent frame is a built one. -/
theorem builtTrain_trainOf {f : Frame} (hf : frameOK f = true) : BuiltTrain (trainOf Config.cfg f) := ⟨f, hf, rfl⟩

theorem frameOK_zero : frameOK 0#16 = true := by decide

/-- R42, R210: a reset establishes the invariant from any state whose output history holds built trains only. -/
theorem inv_resetBlock {s : State} (hs : ∀ t ∈ s.sent, BuiltTrain t) : Inv (resetBlock s) where
  frame_ok := frameOK_zero
  train_built := builtTrain_trainOf frameOK_zero
  sent_built := hs
  rxq_fits := Nat.zero_le _
  no_measurement _ := ⟨rfl, rfl, rfl, rfl, rfl⟩
  ok_valid h := by cases h
  none_invalid _ := rfl
  busy_train h := by cases h

namespace Inv

variable {s : State}

theorem setSched (h : Inv s) (ts : List Turn) : Inv (s.setSched ts) := { h with }

theorem setReqs (h : Inv s) (ws : List Word) : Inv (s.setReqs ws) := { h with }

theorem setReqIllegal (h : Inv s) (b : Bool) : Inv (s.setReqIllegal b) := { h with }

theorem recordRead (h : Inv s) (k : RegIndex) (w : Word) : Inv (s.recordRead k w) := { h with }

theorem setFrame (h : Inv s) {f : Frame} (hf : frameOK f = true) : Inv (s.setFrame f) := { h with frame_ok := hf }

theorem setRxq (h : Inv s) {q : List Byte} (hq : q.length ≤ Config.cfg.rxDepth) : Inv (s.setRxq q) :=
  { h with rxq_fits := hq }

/-- R41: while the generator plays, TRAIN must not be written; a ready block may. -/
theorem setTrain (h : Inv s) (hb : s.genBusy = false) {t : Train} (ht : BuiltTrain t) : Inv (s.setTrain t) :=
  { h with
    train_built := ht
    busy_train := fun hbusy => absurd (hb.symm.trans hbusy) (by decide) }

/-- R135: a completion ends the time in which TRAIN is the train played. -/
theorem setGenBusy_false (h : Inv s) : Inv (s.setGenBusy false) :=
  { h with busy_train := fun hbusy => by cases hbusy }

/-- R134: the hand-off records TRAIN, which GEN_BUSY = 1 then says of it. -/
theorem handOff (h : Inv s) : Inv ((s.setGenBusy true).recordTx s.train) :=
  { h with
    sent_built := fun t ht => (List.mem_append.mp ht).elim (h.sent_built t)
      fun ht => List.mem_singleton.mp ht ▸ h.train_built
    busy_train := fun _ => List.getLast?_concat }

/-- R32: a result that neither accepts a frame nor forgets one says nothing of TLM_VALID. -/
theorem setTlmLast (h : Inv s) {l : TlmLast} (hok : l ≠ .ok) (hnone : l ≠ .none) : Inv (s.setTlmLast l) :=
  { h with
    ok_valid := fun hl => absurd hl hok
    none_invalid := fun hl => absurd hl hnone }

/-- R154, R155: an accepted frame sets TLM_VALID and TLM_LAST together with the registers. -/
theorem latchTlm (h : Inv s) (f : Vector Byte 10) : Inv (s.latchTlm f) :=
  { h with
    no_measurement := fun hv => by cases hv
    ok_valid := fun _ => rfl
    none_invalid := fun hl => by cases hl }

/-- R36: a push keeps RXQ within RX_DEPTH and touches nothing else. -/
theorem rxPush (h : Inv s) (b : Byte) (loss : Loss) : Inv (rxPush Config.cfg b loss s) := by
  rw [rxPush_eq_setRxq]
  exact h.setRxq (rxPush_keeps_depth s Config.ten_le_rxDepth b loss h.rxq_fits)

/-- R150: each of the three outcomes of TLM_DECODE keeps the invariant. -/
theorem tlmDecodeWith (h : Inv s) : Inv (tlmDecodeWith Config.cfg s) := by
  have hs := h.setReqIllegal false
  have hdrained : Inv ((s.setReqIllegal false).setRxq []) := hs.setRxq (Nat.zero_le _)
  obtain ⟨_, e⟩ | ⟨_, _, e⟩ | ⟨_, _, e⟩ := tlmDecodeWith_cases s Config.cfg <;> rw [e]
  · refine (hs.setRxq ?_).setTlmLast (by decide) (by decide)
    split
    · exact Nat.zero_le _
    · exact h.rxq_fits
  · exact hdrained.latchTlm _
  · exact hdrained.setTlmLast (by decide) (by decide)

/-- A request that a ready block performs keeps the invariant. -/
theorem after (h : Inv s) (hb : s.genBusy = false) (i : Instr) : Inv (after i s) := by
  cases i with
  | nop => exact h.setReqIllegal false
  | encThr thr t => exact (h.setFrame (frameOK_makeFrame _ t)).setReqIllegal false
  | encCmd code t => exact (h.setFrame (frameOK_makeFrame code t)).setReqIllegal false
  | genTrain => exact (h.setTrain hb (builtTrain_trainOf h.frame_ok)).setReqIllegal false
  | send => exact (h.setReqIllegal false).handOff
  | tlmDecode => exact h.tlmDecodeWith

theorem performed (h : Inv s) (hb : s.genBusy = false) (w : Word) : Inv (performed w s) := by
  obtain ⟨i, _, e⟩ | ⟨_, _, e⟩ := performed_cases w s <;> rw [e]
  · exact h.after hb i
  · exact h.setReqIllegal true

theorem hosted (h : Inv s) : Inv (hosted s) := by
  obtain ⟨_, e⟩ | ⟨_, e⟩ | ⟨w, ws, _, hb, e⟩ := hosted_cases s <;> rw [e]
  · exact h
  · exact h
  · exact (h.setReqs ws).performed hb w

theorem turned (h : Inv s) (t : Turn) : Inv (turned t s) := by
  cases t with
  | host => exact h.hosted
  | read k => exact h.recordRead k _
  | rx b loss => exact h.rxPush b loss
  | done => exact h.setGenBusy_false
  | rst => exact inv_resetBlock h.sent_built

theorem stepped (h : Inv s) : Inv (stepped s) := by
  cases hs : s.sched with
  | nil => rw [stepped_of_idle hs]; exact h
  | cons t ts => rw [stepped_of_sched hs]; exact (h.setSched ts).turned t

end Inv

/-- Settles O57: the agent that moves keeps the invariant, whichever it is. -/
theorem invKeptByEveryStep : Obligations.InvKeptByEveryStep :=
  fun _ _ hs h => step_eq_next_iff.mp h ▸ hs.stepped

/-- Settles O56: the reset state is what a reset leaves with an empty history. -/
theorem invHoldsAtReset : Obligations.InvHoldsAtReset :=
  inv_resetBlock (s := State.reset) fun _ ht => absurd ht List.not_mem_nil

end Sys2Proof.Safety

/-! The telemetry does not depend on what is encoded and sent (10_state.md R43, 42_telemetry.md R150, R156): the part of the state
that the telemetry can depend on moves by itself. -/

namespace Sys2Proof.Machine

variable {c : Cfg} {s : State}

/-- R151: what TLM_DECODE does with fewer than 10 bytes waiting. -/
theorem tlmDecodeWith_of_short (h : s.rxq.length < 10) : tlmDecodeWith c s =
    ((s.setReqIllegal false).setRxq (if c.shortReadDrains then [] else s.rxq)).setTlmLast .short := by
  obtain ⟨_, e⟩ | ⟨hl, _⟩ | ⟨hl, _⟩ := tlmDecodeWith_cases s c
  · exact e
  · exact absurd h hl.not_gt
  · exact absurd h hl.not_gt

/-- R154, R155: what it does when the checksum byte of the newest 10 bytes matches. -/
theorem tlmDecodeWith_of_accepted (h : 10 ≤ s.rxq.length) (hk : tlmCheckOk c (newest10 s.rxq) = true) :
    tlmDecodeWith c s = ((s.setReqIllegal false).setRxq []).latchTlm (newest10 s.rxq) := by
  obtain ⟨hl, _⟩ | ⟨_, _, e⟩ | ⟨_, hk', _⟩ := tlmDecodeWith_cases s c
  · exact absurd h hl.not_ge
  · exact e
  · simp [hk] at hk'

/-- R156: what it does when the checksum byte does not match. -/
theorem tlmDecodeWith_of_badsum (h : 10 ≤ s.rxq.length) (hk : tlmCheckOk c (newest10 s.rxq) = false) :
    tlmDecodeWith c s = ((s.setReqIllegal false).setRxq []).setTlmLast .badsum := by
  obtain ⟨hl, _⟩ | ⟨_, hk', _⟩ | ⟨_, _, e⟩ := tlmDecodeWith_cases s c
  · exact absurd h hl.not_ge
  · simp [hk] at hk'
  · exact e

/-- R36: a push below RX_DEPTH is appended. -/
theorem rxPush_of_room (h : s.rxq.length < c.rxDepth) (b : Byte) (loss : Loss) :
    rxPush c b loss s = s.setRxq (s.rxq ++ [b]) :=
  if_pos h

/-- R36: a push into a full FIFO that loses the new byte. -/
theorem rxPush_newest_of_full (h : c.rxDepth ≤ s.rxq.length) (b : Byte) : rxPush c b .newest s = s :=
  if_neg h.not_gt

/-- R36: a push into a full FIFO that loses the oldest byte. -/
theorem rxPush_oldest_of_full (h : c.rxDepth ≤ s.rxq.length) (b : Byte) :
    rxPush c b .oldest s = s.setRxq (s.rxq.drop 1 ++ [b]) :=
  if_neg h.not_gt

end Sys2Proof.Machine

namespace Sys2Proof.Laws

open Sys2Proof.Machine Sys2Proof.Safety

/-- The state with everything that no telemetry depends on at its reset value: FRAME, TRAIN, REQ_ILLEGAL, the output history and the
host's reads. What is left is the telemetry, GEN_BUSY, the host's list and the schedule. -/
def telemetryView (s : State) : State :=
  { s with
    frame := State.reset.frame
    train := State.reset.train
    reqIllegal := false
    sent := []
    reads := [] }

/-- Two states have one view exactly when they agree on the telemetry and on what steers it. -/
theorem telemetryView_eq_iff {s s' : State} : telemetryView s = telemetryView s' ↔
    SameTelemetry s s' ∧ s.genBusy = s'.genBusy ∧ s.reqs = s'.reqs ∧ s.sched = s'.sched := by
  constructor
  · intro h
    simp only [telemetryView, State.mk.injEq] at h
    obtain ⟨-, -, temp, volt, curr, cons, erpm, last, valid, -, rxq, busy, -, -, reqs, sched⟩ := h
    exact ⟨⟨temp, volt, curr, cons, erpm, last, valid, rxq⟩, busy, reqs, sched⟩
  · rintro ⟨⟨temp, volt, curr, cons, erpm, last, valid, rxq⟩, busy, reqs, sched⟩
    simp only [telemetryView, temp, volt, curr, cons, erpm, last, valid, rxq, busy, reqs, sched]

/-- R150: TLM_DECODE reads nothing outside the view. -/
theorem telemetryView_tlmDecodeWith (c : Cfg) (s : State) :
    telemetryView (tlmDecodeWith c s) = tlmDecodeWith c (telemetryView s) := by
  obtain ⟨h, e⟩ | ⟨h, hk, e⟩ | ⟨h, hk, e⟩ := tlmDecodeWith_cases s c
  · rw [e, tlmDecodeWith_of_short (s := telemetryView s) h]; rfl
  · rw [e, tlmDecodeWith_of_accepted (s := telemetryView s) h hk]; rfl
  · rw [e, tlmDecodeWith_of_badsum (s := telemetryView s) h hk]; rfl

/-- R43: what a request does to the view: GEN_BUSY for SEND, the telemetry for TLM_DECODE, and nothing for the others. -/
def afterView : Instr → State → State
  | .send, v => v.setGenBusy true
  | .tlmDecode, v => tlmDecodeWith Config.cfg v
  | _, v => v

theorem telemetryView_after (i : Instr) (s : State) : telemetryView (after i s) = afterView i (telemetryView s) := by
  cases i with
  | tlmDecode => exact telemetryView_tlmDecodeWith Config.cfg s
  | nop | encThr | encCmd | genTrain | send => rfl

/-- R182: an illegal word does nothing to the view. -/
theorem telemetryView_performed (w : Word) (s : State) :
    telemetryView (performed w s) = telemetryView (performed w (telemetryView s)) := by
  cases h : decode w with
  | error e => simp only [performed_of_error h]; rfl
  | ok i => simp only [performed_of_ok h, telemetryView_after]; rfl

/-- R41: whether the block takes a request, and which one, is in the view. -/
theorem telemetryView_hosted (s : State) : telemetryView (hosted s) = telemetryView (hosted (telemetryView s)) := by
  obtain ⟨hr, e⟩ | ⟨hb, e⟩ | ⟨w, ws, hr, hb, e⟩ := hosted_cases s
  · rw [e, hosted_of_waiting (s := telemetryView s) (.inr hr)]; rfl
  · rw [e, hosted_of_waiting (s := telemetryView s) (.inl hb)]; rfl
  · rw [e, hosted_of_ready (s := telemetryView s) hr hb, telemetryView_performed]
    exact (telemetryView_performed w ((telemetryView s).setReqs ws)).symm

/-- No agent's move lets anything outside the view into it. -/
theorem telemetryView_turned (t : Turn) (s : State) :
    telemetryView (turned t s) = telemetryView (turned t (telemetryView s)) := by
  cases t with
  | host => exact telemetryView_hosted s
  | rx b loss =>
    change telemetryView (rxPush _ b loss s) = telemetryView (rxPush _ b loss (telemetryView s))
    obtain ⟨h, e⟩ | ⟨h, rfl, e⟩ | ⟨h, rfl, e⟩ := rxPush_cases s Config.cfg b loss
    · rw [e, rxPush_of_room (s := telemetryView s) h]; rfl
    · rw [e, rxPush_newest_of_full (s := telemetryView s) h]; rfl
    · rw [e, rxPush_oldest_of_full (s := telemetryView s) h]; rfl
  | read k => rfl
  | done => rfl
  | rst => rfl

theorem telemetryView_stepped (s : State) : telemetryView (stepped s) = telemetryView (stepped (telemetryView s)) := by
  cases h : s.sched with
  | nil => rw [stepped_of_idle h, stepped_of_idle (s := telemetryView s) h]; rfl
  | cons t ts =>
    rw [stepped_of_sched h, stepped_of_sched (s := telemetryView s) h, telemetryView_turned]
    exact (telemetryView_turned t ((telemetryView s).setSched ts)).symm

/-- States of one view stay so over any number of steps. -/
theorem telemetryView_steppedN_congr (n : Nat) {s s' : State} (h : telemetryView s = telemetryView s') :
    telemetryView (steppedN n s) = telemetryView (steppedN n s') := by
  induction n generalizing s s' with
  | zero => exact h
  | succ n ih => exact ih (by rw [telemetryView_stepped, h, ← telemetryView_stepped])

/-- Settles O59: the runs keep one view, and agreement on the telemetry is part of it. -/
theorem encoderNeverAltersTelemetry : Obligations.EncoderNeverAltersTelemetry := by
  intro n s s' ht hb hr hs
  have hv := telemetryView_steppedN_congr n (telemetryView_eq_iff.mpr ⟨ht, hb, hr, hs⟩)
  exact ⟨_, _, runSteps_eq n s, runSteps_eq n s', (telemetryView_eq_iff.mp hv).1⟩

end Sys2Proof.Laws

/-! One step, turn by turn: a push, a host read, a completion, and a request that is accepted or waits (10_state.md R36, R39, R41). -/

namespace Sys2Proof.Laws

open Sys2Proof.Machine

/-- Settles O41: the three cases of a push, each with the rest of the schedule. -/
theorem rxPushOutcomes : Obligations.RxPushOutcomes := by
  intro s b loss ts hs
  rw [step_of_sched hs, turned]
  refine ⟨fun hroom => ?_, fun hfull hl => ?_, fun hfull hl => ?_⟩
  · rw [rxPush_of_room (s := s.setSched ts) hroom]; rfl
  · rw [hl, rxPush_newest_of_full (s := s.setSched ts) hfull]; rfl
  · rw [hl, rxPush_oldest_of_full (s := s.setSched ts) hfull]; rfl

/-- Settles O46: the turn of a read records the word and that is all. -/
theorem hostReadHasNoEffect : Obligations.HostReadHasNoEffect :=
  fun _ _ _ hs => step_of_sched hs

/-- R41: the step in which a ready block takes the first request of the host's list. -/
theorem stepped_of_ready {s : State} {w : Word} {ws : List Word} {ts : List Turn} (hs : s.sched = .host :: ts)
    (hr : s.reqs = w :: ws) (hb : s.genBusy = false) :
    stepped s = performed w ((s.setSched ts).setReqs ws) := by
  rw [stepped_of_sched hs]
  exact hosted_of_ready hr hb

/-- R83: a table word decodes to what its request word decodes to. -/
theorem decodeTableWord_eq_some_iff {nbits w : Nat} {i : Instr} :
    decodeTableWord nbits w = some i ↔ decode (tableWord nbits w) = .ok i := by
  unfold decodeTableWord
  cases decode (tableWord nbits w) <;> simp [Except.toOption]

/-- Settles O47: the host's turn of a ready block performs its first word, and `withFetchWord` makes the block ready. -/
theorem stepRunsDecodedRequest : Obligations.StepRunsDecodedRequest := by
  constructor
  · intro s w ws ts i hs hr hb hd
    rw [step_eq_stepped, stepped_of_ready hs hr hb, performed_of_ok hd, ← exec_eq_after]; rfl
  · intro s nbits w i hd
    rw [step_eq_stepped, stepped_of_ready (s := s.withFetchWord nbits w) rfl rfl rfl,
      performed_of_ok (decodeTableWord_eq_some_iff.mp hd), ← exec_eq_after]
    rfl

/-- Settles O50: a host's turn that finds nothing to do leaves the state, and a completion clears GEN_BUSY. -/
theorem busyBlockTakesNoRequest : Obligations.BusyBlockTakesNoRequest := by
  refine fun s ts => ⟨fun hs hw => ?_, step_of_sched⟩
  rw [step_of_sched hs, turned, hosted_of_waiting (s := s.setSched ts) hw]; rfl

/-- Settles O53: each request's state after it, named by the model's own updates; TLM_DECODE by its three outcomes. -/
theorem requestsWriteOnlyTheirState : Obligations.RequestsWriteOnlyTheirState := by
  refine ⟨fun i s t h => ?_, fun _ => rfl, fun w s e hd => ?_⟩
  · obtain rfl := exec_eq_next_iff.mp h
    cases i with
    | nop | encThr | encCmd | genTrain | send => rfl
    | tlmDecode =>
      change _ ∨ _ ∨ _
      rw [after]
      obtain ⟨_, e⟩ | ⟨_, _, e⟩ | ⟨_, _, e⟩ := tlmDecodeWith_cases s Config.cfg <;> rw [e]
      · refine .inr (.inr ⟨rfl, ?_, rfl⟩)
        cases hd : Config.cfg.shortReadDrains
        · exact .inr ⟨rfl, by simp⟩
        · exact .inl (by simp)
      · exact .inl ⟨rfl, rfl⟩
      · exact .inr (.inl ⟨rfl, rfl⟩)
  · rw [perform_eq, performed_of_error hd]; rfl

end Sys2Proof.Laws

/-! The register map (10_state.md R31, R32, R38, R42). -/

namespace Sys2Proof.Machine

variable (s : State)

/-- R31: the fields of STATUS in their places. -/
theorem statusWord_tlmLast : (statusWord s).extractLsb' 0 2 = s.tlmLast.code :=
  BitVec.extractLsb'_append_eq_right

theorem statusWord_tlmValid : (statusWord s).getLsbD 2 = s.tlmValid := by
  simp only [statusWord, BitVec.getLsbD_append]
  simp

theorem statusWord_reqIllegal : (statusWord s).getLsbD 3 = s.reqIllegal := by
  simp only [statusWord, BitVec.getLsbD_append]
  simp

theorem statusWord_upper : (statusWord s).extractLsb' 4 28 = 0#28 := by
  rw [statusWord, BitVec.extractLsb'_append_eq_of_le (by decide), BitVec.extractLsb'_append_eq_of_le (by decide)]
  exact BitVec.extractLsb'_append_eq_left

/-- R38: indices 8 to 39 read the entries of TRAIN. -/
theorem regRead_train {k : RegIndex} {i : Nat} (hi : i < 32) (hk : k.toNat = 8 + i) :
    regRead s k = (s.train[i]).setWidth 32 := by
  rw [regRead, dif_pos (by omega)]
  simp only [hk, Nat.add_sub_cancel_left]

/-- R38: indices 40 and above read 0. -/
theorem regRead_above {k : RegIndex} (hk : 40 ≤ k.toNat) : regRead s k = 0#32 := by
  obtain ⟨n, hn⟩ := Nat.exists_eq_add_of_le' hk
  rw [regRead, dif_neg (by omega), hn]; rfl

/-- Settles O45, register by register; every register is no wider than a register word. -/
theorem registerMap : Obligations.RegisterMap := by
  refine ⟨fun s => ⟨?_, statusWord_tlmValid s, statusWord_reqIllegal s, statusWord_upper s,
    BitVec.toNat_setWidth_of_le (b := s.frame) (by decide), BitVec.toNat_setWidth_of_le (b := s.tlmTemp) (by decide),
    BitVec.toNat_setWidth_of_le (b := s.tlmVolt) (by decide), BitVec.toNat_setWidth_of_le (b := s.tlmCurr) (by decide),
    BitVec.toNat_setWidth_of_le (b := s.tlmCons) (by decide), BitVec.toNat_setWidth_of_le (b := s.tlmErpm) (by decide),
    rfl, fun i hi => ?_, fun k => regRead_above s⟩, fun c hc => ?_⟩
  · refine (statusWord_tlmLast s).trans ?_
    cases s.tlmLast <;> rfl
  · rw [regRead_train s hi (by simp; omega)]
    exact BitVec.toNat_setWidth_of_le Config.durW_le
  · rw [← Option.not_isSome_iff_eq_none, Cfg.accept_isSome_iff_wf]
    exact fun hwf => hc.not_ge (Cfg.wf_durW hwf)

/-- Settles O2: each field of the reset state is the value of R42, and STATUS reads its three fields. -/
theorem resetValues : Obligations.ResetValues :=
  ⟨rfl, rfl, rfl, rfl, rfl, rfl, rfl, by decide, rfl, rfl, rfl, rfl, rfl⟩

end Sys2Proof.Machine

/-! Which words are legal, by their fields (30_encoding.md R75, R76, R80), and the flag that says so (10_state.md R34). -/

namespace Sys2Proof

@[simp] theorem decoded_ok_isOk (i : Instr) : (.ok i : Except Illegal Instr).isOk = true := rfl

@[simp] theorem decoded_error_isOk (e : Illegal) : (.error e : Except Illegal Instr).isOk = false := rfl

/-- R75: w[27:0] is the fields RSV, T and IMM. -/
theorem extractLsb'_operands_eq_zero_iff (w : Word) :
    w.extractLsb' 0 28 = 0#28 ↔ (fieldsOf w).rsv = 0#11 ∧ (fieldsOf w).t = false ∧ (fieldsOf w).imm = 0#16 := by
  simp only [fieldsOf, ← BitVec.toNat_inj, BitVec.extractLsb'_toNat, Nat.shiftRight_eq_div_pow, BitVec.getLsbD,
    Nat.testBit_eq_decide_div_mod_eq, decide_eq_false_iff_not, BitVec.toNat_ofNat]
  omega

/-- R78: w[15:11] is 0 exactly when IMM is an 11-bit code. -/
theorem extractLsb'_code_eq_zero_iff (w : Word) :
    w.extractLsb' 11 5 = 0#5 ↔ (fieldsOf w).imm.toNat < 2 ^ 11 := by
  simp only [fieldsOf, ← BitVec.toNat_inj, BitVec.extractLsb'_toNat, Nat.shiftRight_eq_div_pow, BitVec.toNat_ofNat]
  omega

/-- R76: a word of a request without operands is legal exactly when all its other fields are 0. -/
theorem decodePlain_isOk (w : Word) (i : Instr) : (decodePlain w i).isOk =
    decide ((fieldsOf w).rsv = 0#11 ∧ (fieldsOf w).t = false ∧ (fieldsOf w).imm = 0#16) := by
  simp only [decodePlain, extractLsb'_operands_eq_zero_iff]
  split <;> simp [*]

/-- R76, R77: an ENC_THR word is legal exactly when RSV is 0. -/
theorem decodeEncThr_isOk (w : Word) : (decodeEncThr w).isOk = decide ((fieldsOf w).rsv = 0#11) := by
  unfold decodeEncThr
  change Except.isOk (if (fieldsOf w).rsv = 0#11 then _ else _) = _
  split <;> simp [*]

/-- R76, R78: an ENC_CMD word is legal exactly when RSV is 0 and IMM is an 11-bit code. -/
theorem decodeEncCmd_isOk (w : Word) : (decodeEncCmd w).isOk =
    decide ((fieldsOf w).rsv = 0#11 ∧ (fieldsOf w).imm.toNat < 2 ^ 11) := by
  simp only [decodeEncCmd, extractLsb'_code_eq_zero_iff]
  change Except.isOk (if (fieldsOf w).rsv = 0#11 then _ else _) = _
  split
  · split <;> simp_all
  · simp [*]

namespace Fields

variable {f : Fields}

/-- R76: the legal fields of a request without operands. -/
theorem wf_of_plainOp (h : f.op = 0#4 ∨ f.op = 3#4 ∨ f.op = 4#4 ∨ f.op = 5#4) :
    f.wf = decide (f.rsv = 0#11 ∧ f.t = false ∧ f.imm = 0#16) := by
  rcases h with h | h | h | h <;> simp [wf, opAssigned, rsvZero, tAllowed, immAllowed, h, Bool.and_assoc]

/-- R76, R77: the legal fields of ENC_THR. -/
theorem wf_of_encThrOp (h : f.op = 1#4) : f.wf = decide (f.rsv = 0#11) := by
  simp [wf, opAssigned, rsvZero, tAllowed, immAllowed, h]

/-- R76, R78: the legal fields of ENC_CMD; IMM = 0 is an 11-bit code. -/
theorem wf_of_encCmdOp (h : f.op = 2#4) : f.wf = decide (f.rsv = 0#11 ∧ f.imm.toNat < 2 ^ 11) := by
  have hzero : f.imm = 0#16 → f.imm.toNat < 2 ^ 11 := fun h0 => by simp [h0]
  simp only [wf, opAssigned, rsvZero, tAllowed, immAllowed, h, true_and, or_iff_left_of_imp hzero]
  simp

/-- R76: no fields are legal under a reserved OP. -/
theorem wf_of_reservedOp (h : 6 ≤ f.op.toNat) : f.wf = false := by
  simp [wf, opAssigned, (show ¬ f.op.toNat ≤ 5 by omega)]

end Fields

/-- R75, R76, R80: the decoder accepts a word exactly when its fields are those of a legal request. -/
theorem decode_isOk (w : Word) : (decode w).isOk = (fieldsOf w).wf := by
  have hop {n : Nat} (hn : n < 16) (h : (w.extractLsb' 28 4).toNat = n) : (fieldsOf w).op = BitVec.ofNat 4 n :=
    BitVec.eq_of_toNat_eq (h.trans (Nat.mod_eq_of_lt hn).symm)
  match h : (w.extractLsb' 28 4).toNat with
  | 0 => rw [decode, h, Fields.wf_of_plainOp (by simp [hop (by decide) h])]; exact decodePlain_isOk w _
  | 1 => rw [decode, h, Fields.wf_of_encThrOp (hop (by decide) h)]; exact decodeEncThr_isOk w
  | 2 => rw [decode, h, Fields.wf_of_encCmdOp (hop (by decide) h)]; exact decodeEncCmd_isOk w
  | 3 => rw [decode, h, Fields.wf_of_plainOp (by simp [hop (by decide) h])]; exact decodePlain_isOk w _
  | 4 => rw [decode, h, Fields.wf_of_plainOp (by simp [hop (by decide) h])]; exact decodePlain_isOk w _
  | 5 => rw [decode, h, Fields.wf_of_plainOp (by simp [hop (by decide) h])]; exact decodePlain_isOk w _
  | n + 6 => rw [decode, h, Fields.wf_of_reservedOp (show 6 ≤ (w.extractLsb' 28 4).toNat by omega)]; rfl

end Sys2Proof

namespace Sys2Proof.Laws

open Sys2Proof.Machine

/-- R34: an accepted word sets REQ_ILLEGAL if it is illegal and clears it if it is legal. -/
@[simp] theorem performed_reqIllegal (w : Word) (s : State) : (performed w s).reqIllegal = !(decode w).isOk := by
  obtain ⟨i, h, e⟩ | ⟨_, h, e⟩ := performed_cases w s <;> simp [e, h]

/-- Settles O49: the decoder accepts a word exactly when its fields are well-formed. -/
theorem everyRequestWritesIllegalFlag : Obligations.EveryRequestWritesIllegalFlag := by
  intro s w ws ts hs hr hb
  refine ⟨_, step_eq_stepped s, ?_⟩
  simp [stepped_of_ready hs hr hb, decode_isOk]

end Sys2Proof.Laws

/-! Who writes a register (10_state.md R24 to R30, R32, R33): one accepted request each, or a reset. -/

namespace Sys2Proof.Laws

open Sys2Proof.Machine Sys2Proof.Safety

/-- Two states that agree on the registers the requests of the encoder, the timer and the parser write, with TLM_VALID and TLM_LAST. -/
structure SameRegisters (s t : State) : Prop where
  frame : t.frame = s.frame
  train : t.train = s.train
  tlmTemp : t.tlmTemp = s.tlmTemp
  tlmVolt : t.tlmVolt = s.tlmVolt
  tlmCurr : t.tlmCurr = s.tlmCurr
  tlmCons : t.tlmCons = s.tlmCons
  tlmErpm : t.tlmErpm = s.tlmErpm
  tlmValid : t.tlmValid = s.tlmValid
  tlmLast : t.tlmLast = s.tlmLast

theorem SameRegisters.refl (s : State) : SameRegisters s s := ⟨rfl, rfl, rfl, rfl, rfl, rfl, rfl, rfl, rfl⟩

/-- R41: a step is the acceptance of the request `i`, which leaves the state `t`. -/
def AcceptsRequest (s : State) (i : Instr) (t : State) : Prop :=
  s.sched.head? = some .host ∧ s.genBusy = false ∧ (∃ w, s.reqs.head? = some w ∧ decode w = .ok i) ∧
    t = after i ((s.setSched s.sched.tail).setReqs s.reqs.tail)

/-- The host's turn: it accepts a legal request, or the registers stay. -/
theorem stepped_of_hostTurn {s : State} {ts : List Turn} (hs : s.sched = .host :: ts) :
    SameRegisters s (stepped s) ∨ ∃ i, AcceptsRequest s i (stepped s) := by
  by_cases hw : s.genBusy = true ∨ s.reqs = []
  · rw [stepped_of_sched hs, turned, hosted_of_waiting (s := s.setSched ts) hw]
    exact .inl { SameRegisters.refl s with }
  · obtain ⟨hb, hne⟩ := not_or.mp hw
    obtain ⟨w, ws, hr⟩ := List.exists_cons_of_ne_nil hne
    rw [stepped_of_ready hs hr (Bool.eq_false_of_not_eq_true hb)]
    cases hd : decode w with
    | ok i =>
      rw [performed_of_ok hd]
      exact .inr ⟨i, by simp [hs], Bool.eq_false_of_not_eq_true hb, ⟨w, by simp [hr], hd⟩, by simp [hs, hr]⟩
    | error e =>
      rw [performed_of_error hd]
      exact .inl { SameRegisters.refl s with }

/-- R24 to R33: a step without a reset either leaves the registers or accepts a legal request. -/
theorem stepped_registers {s : State} (hrst : s.sched.head? ≠ some .rst) :
    SameRegisters s (stepped s) ∨ ∃ i, AcceptsRequest s i (stepped s) := by
  cases hs : s.sched with
  | nil => rw [stepped_of_idle hs]; exact .inl (.refl s)
  | cons t ts =>
    cases t with
    | host => exact stepped_of_hostTurn hs
    | read k => rw [stepped_of_sched hs]; exact .inl { SameRegisters.refl s with }
    | rx b loss => rw [stepped_of_sched hs, turned, rxPush_eq_setRxq]; exact .inl { SameRegisters.refl s with }
    | done => rw [stepped_of_sched hs]; exact .inl { SameRegisters.refl s with }
    | rst => simp [hs] at hrst

/-- R24: only ENC_THR and ENC_CMD write FRAME. -/
theorem writes_frame {i : Instr} {s : State} (h : (after i s).frame ≠ s.frame) :
    (∃ thr t, i = .encThr thr t) ∨ ∃ code t, i = .encCmd code t := by
  cases i with
  | encThr thr t => exact .inl ⟨thr, t, rfl⟩
  | encCmd code t => exact .inr ⟨code, t, rfl⟩
  | nop | genTrain | send => exact absurd rfl h
  | tlmDecode =>
    obtain ⟨_, e⟩ | ⟨_, _, e⟩ | ⟨_, _, e⟩ := tlmDecodeWith_cases s Config.cfg <;> simp [after, e] at h

/-- R25: only GEN_TRAIN writes TRAIN. -/
theorem writes_train {i : Instr} {s : State} (h : (after i s).train ≠ s.train) : i = .genTrain := by
  cases i with
  | genTrain => rfl
  | nop | encThr | encCmd | send => exact absurd rfl h
  | tlmDecode =>
    obtain ⟨_, e⟩ | ⟨_, _, e⟩ | ⟨_, _, e⟩ := tlmDecodeWith_cases s Config.cfg <;> simp [after, e] at h

/-- R26 to R30, R33: a telemetry register or TLM_VALID differs between the two states. -/
def TlmChanged (s t : State) : Prop :=
  t.tlmTemp ≠ s.tlmTemp ∨ t.tlmVolt ≠ s.tlmVolt ∨ t.tlmCurr ≠ s.tlmCurr ∨ t.tlmCons ≠ s.tlmCons ∨
    t.tlmErpm ≠ s.tlmErpm ∨ t.tlmValid ≠ s.tlmValid

/-- R155, R156: only a TLM_DECODE that accepts a frame writes the telemetry registers and TLM_VALID. -/
theorem writes_tlm {i : Instr} {s : State} (h : TlmChanged s (after i s)) :
    i = .tlmDecode ∧ 10 ≤ s.rxq.length ∧ (after i s).tlmLast = .ok ∧ (after i s).tlmValid = true := by
  cases i with
  | nop | encThr | encCmd | genTrain | send => simp [TlmChanged, after] at h
  | tlmDecode =>
    obtain ⟨_, e⟩ | ⟨hl, _, e⟩ | ⟨_, _, e⟩ := tlmDecodeWith_cases s Config.cfg
    · simp [TlmChanged, after, e] at h
    · simp [after, e, hl]
    · simp [TlmChanged, after, e] at h

/-- Settles O54: where a register changed, the step accepted a request, and that request writes the register. -/
theorem registersHaveOneWriter : Obligations.RegistersHaveOneWriter := by
  intro s t hstep hrst
  obtain rfl := step_eq_next_iff.mp hstep
  obtain same | ⟨i, hhost, hready, ⟨w, hw, hd⟩, e⟩ := stepped_registers hrst
  · exact ⟨fun h => absurd same.frame h, fun h => absurd same.train h, fun h => by
      simp [same.tlmTemp, same.tlmVolt, same.tlmCurr, same.tlmCons, same.tlmErpm, same.tlmValid] at h⟩
  · rw [e]
    refine ⟨fun h => ⟨hhost, hready, w, i, hw, hd, writes_frame h⟩, fun h => ?_, fun h => ?_⟩
    · obtain rfl := writes_train h
      exact ⟨hhost, hready, w, hw, hd⟩
    · obtain ⟨rfl, hl, hok, hvalid⟩ := writes_tlm h
      exact ⟨hhost, hready, ⟨w, hw, hd⟩, hl, hok, hvalid⟩

/-- R33: no request clears TLM_VALID. -/
theorem after_tlmValid (i : Instr) {s : State} (h : s.tlmValid = true) : (after i s).tlmValid = true := by
  by_cases hc : (after i s).tlmValid = s.tlmValid
  · rw [hc, h]
  · obtain ⟨_, _, _, hvalid⟩ := writes_tlm (.inr (.inr (.inr (.inr (.inr hc)))))
    exact hvalid

/-- R32: no request brings TLM_LAST back to NONE. -/
theorem after_tlmLast_ne_none (i : Instr) {s : State} (h : s.tlmLast ≠ .none) : (after i s).tlmLast ≠ .none := by
  cases i with
  | nop | encThr | encCmd | genTrain | send => exact h
  | tlmDecode => obtain ⟨_, e⟩ | ⟨_, _, e⟩ | ⟨_, _, e⟩ := tlmDecodeWith_cases s Config.cfg <;> simp [after, e]

/-- What every step without a reset keeps holds all along a schedule without resets. -/
theorem steppedN_keeps_without_reset {P : State → Prop}
    (hstep : ∀ s, s.sched.head? ≠ some .rst → P s → P (stepped s)) (n : Nat) {s : State} (hr : Turn.rst ∉ s.sched)
    (hs : P s) : P (steppedN n s) := by
  induction n generalizing s with
  | zero => exact hs
  | succ n ih =>
    refine ih (fun hmem => hr (List.mem_of_mem_tail (stepped_sched s ▸ hmem))) (hstep s (fun hh => hr ?_) hs)
    exact List.mem_of_head? hh

/-- R33, R212: a step without a reset does not clear TLM_VALID. -/
theorem stepped_tlmValid {s : State} (hr : s.sched.head? ≠ some .rst) (h : s.tlmValid = true) :
    (stepped s).tlmValid = true := by
  obtain same | ⟨i, _, _, _, e⟩ := stepped_registers hr
  · rw [same.tlmValid, h]
  · rw [e]; exact after_tlmValid i h

/-- R32, R212: a step without a reset does not bring TLM_LAST back to NONE. -/
theorem stepped_tlmLast_ne_none {s : State} (hr : s.sched.head? ≠ some .rst) (h : s.tlmLast ≠ .none) :
    (stepped s).tlmLast ≠ .none := by
  obtain same | ⟨i, _, _, _, e⟩ := stepped_registers hr
  · rw [same.tlmLast]; exact h
  · rw [e]; exact after_tlmLast_ne_none i h

/-- Settles O55: both facts are kept step by step. -/
theorem onlyResetClearsTlmValid : Obligations.OnlyResetClearsTlmValid := fun n s hr =>
  ⟨_, runSteps_eq n s,
    steppedN_keeps_without_reset (P := (·.tlmValid = true)) (fun _ => stepped_tlmValid) n hr,
    steppedN_keeps_without_reset (P := (·.tlmLast ≠ .none)) (fun _ => stepped_tlmLast_ne_none) n hr⟩

end Sys2Proof.Laws

/-! The FIFO over several moves: a run of pushes keeps the arrival order, and a decode leaves nothing for the next one
(20_memory.md R57, R62, R67). -/

namespace Sys2Proof.Machine

variable {c : Cfg} {s : State}

/-- R36, R62: a push appends its byte and may lose one, so what waits keeps its order. -/
theorem rxPush_rxq_sublist (c : Cfg) (s : State) (b : Byte) (loss : Loss) :
    (rxPush c b loss s).rxq.Sublist (s.rxq ++ [b]) := by
  obtain ⟨_, e⟩ | ⟨_, _, e⟩ | ⟨_, _, e⟩ := rxPush_cases s c b loss <;> rw [e]
  · exact .refl _
  · exact List.sublist_append_left _ _
  · exact (List.drop_sublist 1 s.rxq).append_right [b]

/-- R57: a decode leaves RXQ empty, unless it is a short read that keeps the waiting bytes. -/
theorem tlmDecodeWith_rxq_eq_nil (h : 10 ≤ s.rxq.length ∨ c.shortReadDrains = true) :
    (tlmDecodeWith c s).rxq = [] := by
  obtain ⟨hl, e⟩ | ⟨_, _, e⟩ | ⟨_, _, e⟩ := tlmDecodeWith_cases s c <;> rw [e]
  · have hdrains : c.shortReadDrains = true := h.resolve_left hl.not_ge
    simp [hdrains]
  · rfl
  · rfl

/-- R151: a decode with no byte waiting is a short read, and there is nothing for it to discard. -/
theorem tlmDecodeWith_of_empty (h : s.rxq = []) :
    tlmDecodeWith c s = (s.setReqIllegal false).setTlmLast .short := by
  rw [tlmDecodeWith_of_short (by simp [h]), h, ite_self, ← h]; rfl

end Sys2Proof.Machine

namespace Sys2Proof.Laws

open Sys2Proof.Machine Sys2Proof.Safety

/-- Settles O40: the first decode leaves RXQ empty, and the second one finds it so. -/
theorem secondDecodeIsShort : Obligations.SecondDecodeIsShort := by
  intro s t u h ht hu
  obtain rfl := exec_eq_next_iff.mp ht
  obtain rfl := exec_eq_next_iff.mp hu
  have hempty : (after .tlmDecode s).rxq = [] := tlmDecodeWith_rxq_eq_nil h
  exact ⟨hempty, tlmDecodeWith_of_empty hempty⟩

/-- R36: the turn of a push changes RXQ alone, and where there is room no byte is lost. -/
theorem stepped_of_push {s : State} {b : Byte} {loss : Loss} {ts : List Turn} (hs : s.sched = .rx b loss :: ts) :
    ∃ q, stepped s = (s.setSched ts).setRxq q ∧ q.Sublist (s.rxq ++ [b]) ∧
      (s.rxq.length < Config.cfg.rxDepth → q = s.rxq ++ [b]) := by
  refine ⟨(rxPush Config.cfg b loss (s.setSched ts)).rxq, ?_, rxPush_rxq_sublist _ (s.setSched ts) b loss, fun hroom => ?_⟩
  · rw [stepped_of_sched hs, turned, ← rxPush_eq_setRxq]
  · rw [rxPush_of_room (s := s.setSched ts) hroom]; rfl

/-- R62, R67: a run of pushes changes RXQ alone; what waits keeps the arrival order, and where all the bytes fit none is lost. -/
theorem steppedN_of_pushes (bs : List (Byte × Loss)) {s : State} {ts : List Turn}
    (hs : s.sched = bs.map (fun p => Turn.rx p.1 p.2) ++ ts) :
    ∃ q, steppedN bs.length s = (s.setSched ts).setRxq q ∧ q.Sublist (s.rxq ++ bs.map (·.1)) ∧
      (s.rxq.length + bs.length ≤ Config.cfg.rxDepth → q = s.rxq ++ bs.map (·.1)) := by
  induction bs generalizing s with
  | nil =>
    obtain rfl : s.sched = ts := hs
    exact ⟨s.rxq, rfl, by simp, by simp⟩
  | cons p bs ih =>
    obtain ⟨q₁, e₁, hsub₁, hfit₁⟩ := stepped_of_push hs
    obtain ⟨q, e, hsub, hfit⟩ := ih (s := stepped s) (by rw [stepped_sched, hs]; rfl)
    rw [e₁, State.setRxq_rxq] at hsub hfit
    have hassoc : (s.rxq ++ [p.1]) ++ bs.map (·.1) = s.rxq ++ (p :: bs).map (·.1) := by simp
    refine ⟨q, ?_, ?_, fun hroom => ?_⟩
    · rw [List.length_cons, steppedN, e, e₁]; rfl
    · exact hassoc ▸ hsub.trans (hsub₁.append_right _)
    · rw [List.length_cons] at hroom
      obtain rfl := hfit₁ (by omega)
      rw [hfit (by simp; omega), hassoc]

/-- Settles O42: the run of pushes ends with one list, which is in order and, where all the bytes fit, complete. -/
theorem bytesArriveInOrder : Obligations.BytesArriveInOrder := by
  intro s bs ts hs
  obtain ⟨q, e, hsub, hfit⟩ := steppedN_of_pushes bs hs
  have hrun : runSteps bs.length s = .next { s with rxq := q, sched := ts } := by rw [runSteps_eq, e]; rfl
  exact ⟨fun hroom => hfit hroom ▸ hrun, q, hrun, hsub⟩

end Sys2Proof.Laws

/-! Decoder and encoder are inverse (30_encoding.md R75, R76, R80, R83): a word is its fields, and a word is legal exactly when its
fields are those of a request, which is then the one it decodes to. -/

namespace Sys2Proof

/-- R75: a word is put together again from its fields. -/
theorem word_fieldsOf (w : Word) : (fieldsOf w).word = w := by
  apply BitVec.eq_of_toNat_eq
  rw [Fields.word_toNat]
  simp only [fieldsOf, BitVec.extractLsb'_toNat, Nat.shiftRight_eq_div_pow, BitVec.getLsbD, Nat.toNat_testBit]
  omega

/-- R75: words with the same fields are the same word. -/
theorem fieldsOf_inj {w v : Word} : fieldsOf w = fieldsOf v ↔ w = v :=
  ⟨fun h => by rw [← word_fieldsOf w, h, word_fieldsOf], congrArg fieldsOf⟩

/-- R78: w[10:0] is the low part of IMM. -/
theorem extractLsb'_code_eq (w : Word) : w.extractLsb' 0 11 = (fieldsOf w).imm.setWidth 11 :=
  (BitVec.setWidth_extractLsb'_of_le (by decide)).symm

/-- R76: the assigned values of OP and the reserved ones. -/
theorem op_cases (op : BitVec 4) :
    op = 0#4 ∨ op = 1#4 ∨ op = 2#4 ∨ op = 3#4 ∨ op = 4#4 ∨ op = 5#4 ∨ 6 ≤ op.toNat := by
  decide +revert

/-- R76: well-formed fields are those of a request. -/
theorem Fields.exists_instr_of_wf {f : Fields} (hf : f.wf = true) : ∃ i : Instr, i.fields = f := by
  obtain ⟨op, rsv, t, imm⟩ := f
  have plain (i : Instr) (hi : i.fields = ⟨op, 0#11, false, 0#16⟩)
      (hop : op = 0#4 ∨ op = 3#4 ∨ op = 4#4 ∨ op = 5#4) : ∃ i : Instr, i.fields = ⟨op, rsv, t, imm⟩ := by
    rw [wf_of_plainOp hop] at hf
    obtain ⟨rfl, rfl, rfl⟩ := of_decide_eq_true hf
    exact ⟨i, hi⟩
  rcases op_cases op with rfl | rfl | rfl | rfl | rfl | rfl | hop
  · exact plain .nop rfl (by decide)
  · rw [wf_of_encThrOp rfl] at hf
    obtain rfl := of_decide_eq_true hf
    exact ⟨.encThr imm t, rfl⟩
  · rw [wf_of_encCmdOp rfl] at hf
    obtain ⟨rfl, (hcode : imm.toNat < 2 ^ 11)⟩ := of_decide_eq_true hf
    have himm : (imm.setWidth 11).setWidth 16 = imm :=
      BitVec.eq_of_toNat_eq (by simp only [BitVec.toNat_setWidth]; omega)
    exact ⟨.encCmd (imm.setWidth 11) t, by rw [Instr.fields, himm]⟩
  · exact plain .genTrain rfl (by decide)
  · exact plain .send rfl (by decide)
  · exact plain .tlmDecode rfl (by decide)
  · rw [wf_of_reservedOp hop] at hf
    contradiction

/-- R75: the reserved field of every request is 0. -/
@[simp] theorem Instr.fields_rsv (i : Instr) : i.fields.rsv = 0#11 := by
  cases i <;> rfl

/-- R76, R80: the decoder gives the request whose fields the word has. -/
theorem decode_of_fieldsOf {w : Word} {i : Instr} (h : fieldsOf w = i.fields) : decode w = .ok i := by
  have hop : w.extractLsb' 28 4 = i.fields.op := congrArg Fields.op h
  have hrsv : w.extractLsb' 17 11 = 0#11 := (congrArg Fields.rsv h).trans i.fields_rsv
  have ht : w.getLsbD 16 = i.fields.t := congrArg Fields.t h
  have himm : w.extractLsb' 0 16 = i.fields.imm := congrArg Fields.imm h
  rw [decode, hop]
  cases i with
  | nop | genTrain | send | tlmDecode => exact if_pos ((extractLsb'_operands_eq_zero_iff w).mpr ⟨hrsv, ht, himm⟩)
  | encThr thr t =>
    change decodeEncThr w = _
    rw [decodeEncThr, if_pos hrsv, himm, ht]; rfl
  | encCmd code t =>
    change decodeEncCmd w = _
    have hcode : w.extractLsb' 11 5 = 0#5 := by
      rw [extractLsb'_code_eq_zero_iff, h]
      exact (BitVec.toNat_setWidth_of_le (by decide)).trans_lt code.isLt
    rw [decodeEncCmd, if_pos hrsv, if_pos hcode, ht, extractLsb'_code_eq, h]
    simp [Instr.fields]

/-- R80: a word decodes to the request whose fields it has, and to no other. -/
theorem decode_eq_ok_iff {w : Word} {i : Instr} : decode w = .ok i ↔ fieldsOf w = i.fields := by
  refine ⟨fun h => ?_, decode_of_fieldsOf⟩
  have hwf : (fieldsOf w).wf = true := by rw [← decode_isOk, h]; rfl
  obtain ⟨j, hj⟩ := Fields.exists_instr_of_wf hwf
  rw [Except.ok.inj (h.symm.trans (decode_of_fieldsOf hj.symm)), hj]

/-- R80, R83: the word of a request is the one word that decodes to it. -/
theorem decode_eq_ok_iff_encode {w : Word} {i : Instr} : decode w = .ok i ↔ encode i = w := by
  rw [decode_eq_ok_iff, ← fieldsOf_inj, encode, fieldsOf_word, eq_comm]

/-- R80: some request decodes from a word exactly when its fields are well-formed. -/
theorem exists_decode_iff_wf {w : Word} : (∃ i, decode w = .ok i) ↔ (fieldsOf w).wf = true := by
  rw [← decode_isOk]
  cases decode w <;> simp

/-- Settles O5: the encoder's word has the fields of its request. -/
theorem decodeOfEncode : Obligations.DecodeOfEncode :=
  fun _ => decode_eq_ok_iff_encode.mpr rfl

/-- Settles O6: the word of a request is determined by its fields. -/
theorem encodeOfDecode : Obligations.EncodeOfDecode :=
  fun _ _ => decode_eq_ok_iff_encode.mp

/-- Settles O9: the decoder's legal words by their fields, and the fields put together again. -/
theorem legalWordsAreWellFormed : Obligations.LegalWordsAreWellFormed :=
  fun w => ⟨exists_decode_iff_wf, word_fieldsOf w⟩

end Sys2Proof

/-! R80's account of the illegal words, and the rows of the opcode table against the decoder (30_encoding.md R76, R80). -/

namespace Sys2Proof

/-- R80: a word is illegal exactly when its fields are ill-formed. -/
theorem exists_decode_error_iff {w : Word} : (∃ e, decode w = .error e) ↔ (fieldsOf w).wf = false := by
  rw [← decode_isOk]
  cases decode w <;> simp

/-- R80(a) to (d): the ways in which fields are ill-formed. -/
theorem Fields.wf_eq_false_iff (f : Fields) : f.wf = false ↔
    6 ≤ f.op.toNat ∨ ((f.op = 1#4 ∨ f.op = 2#4) ∧ f.rsv ≠ 0#11) ∨ (f.op = 2#4 ∧ ¬ f.imm.toNat < 2 ^ 11) ∨
    ((f.op = 0#4 ∨ f.op = 3#4 ∨ f.op = 4#4 ∨ f.op = 5#4) ∧ ¬ (f.rsv = 0#11 ∧ f.t = false ∧ f.imm = 0#16)) := by
  have plain (h : f.op = 0#4 ∨ f.op = 3#4 ∨ f.op = 4#4 ∨ f.op = 5#4) :
      f.wf = false ↔ ¬ (f.rsv = 0#11 ∧ f.t = false ∧ f.imm = 0#16) := by
    rw [wf_of_plainOp h, decide_eq_false_iff_not]
  rcases op_cases f.op with h | h | h | h | h | h | h
  · rw [plain (by simp [h])]; simp [h]
  · rw [wf_of_encThrOp h]; simp [h]
  · rw [wf_of_encCmdOp h]; simp [h, ← imp_iff_not_or]
  · rw [plain (by simp [h])]; simp [h]
  · rw [plain (by simp [h])]; simp [h]
  · rw [plain (by simp [h])]; simp [h]
  · simp [wf_of_reservedOp h, h]

/-- R76: a word of a request without operands has that request's fields. -/
theorem fieldsOf_of_plain {w : Word} {op : BitVec 4} (hop : w.extractLsb' 28 4 = op)
    (hzero : w.extractLsb' 0 28 = 0#28) : fieldsOf w = ⟨op, 0#11, false, 0#16⟩ := by
  obtain ⟨hrsv, ht, himm⟩ := (extractLsb'_operands_eq_zero_iff w).mp hzero
  exact Fields.mk.injEq .. ▸ ⟨hop, hrsv, ht, himm⟩

/-- R78: an IMM that is an 11-bit code is that code. -/
theorem imm_eq_code {w : Word} (h : w.extractLsb' 11 5 = 0#5) :
    (fieldsOf w).imm = (w.extractLsb' 0 11).setWidth 16 := by
  rw [extractLsb'_code_eq_zero_iff] at h
  apply BitVec.eq_of_toNat_eq
  simp only [extractLsb'_code_eq, BitVec.toNat_setWidth]
  omega

/-- Settles O7: the illegal words by the ways in which fields are ill-formed, and the legal ones by their fields. -/
theorem decodeIsRuleR80 : Obligations.DecodeIsRuleR80 := by
  intro w
  refine ⟨?_, fun hop h => ?_, fun hop hrsv => ?_, fun hop hrsv hcode => ?_, fun hop h => ?_, fun hop h => ?_,
    fun hop h => ?_⟩
  · rw [exists_decode_error_iff, Fields.wf_eq_false_iff, ← extractLsb'_code_eq_zero_iff,
      ← extractLsb'_operands_eq_zero_iff]
    rfl
  · exact decode_of_fieldsOf (fieldsOf_of_plain hop h)
  · exact decode_of_fieldsOf (Fields.mk.injEq .. ▸ ⟨hop, hrsv, rfl, rfl⟩)
  · exact decode_of_fieldsOf (Fields.mk.injEq .. ▸ ⟨hop, hrsv, rfl, imm_eq_code hcode⟩)
  · exact decode_of_fieldsOf (fieldsOf_of_plain hop h)
  · exact decode_of_fieldsOf (fieldsOf_of_plain hop h)
  · exact decode_of_fieldsOf (fieldsOf_of_plain hop h)

/-- R75: masking a word masks its fields. -/
theorem fieldsOf_and (w m : Word) : fieldsOf (w &&& m) =
    ⟨(fieldsOf w).op &&& (fieldsOf m).op, (fieldsOf w).rsv &&& (fieldsOf m).rsv, (fieldsOf w).t && (fieldsOf m).t,
      (fieldsOf w).imm &&& (fieldsOf m).imm⟩ := by
  simp [fieldsOf, BitVec.extractLsb'_and]

/-- R78: the mask of the bits above the code. -/
theorem and_codeMask_eq_zero_iff (imm : BitVec 16) : imm &&& 0xF800#16 = 0#16 ↔ imm.toNat < 2 ^ 11 := by
  rw [show 0xF800#16 = BitVec.allOnes 16 <<< 11 by decide, ← BitVec.shiftLeft_ushiftRight, ← BitVec.toNat_inj]
  simp only [BitVec.toNat_shiftLeft, BitVec.toNat_ushiftRight, Nat.shiftRight_eq_div_pow, Nat.shiftLeft_eq,
    BitVec.toNat_ofNat]
  omega

/-- R76: a row's words, field by field. -/
theorem TableRow.covers_iff (r : TableRow) (w : Word) : r.covers w = true ↔
    (fieldsOf w).op &&& (fieldsOf r.mask).op = (fieldsOf r.base).op ∧
    (fieldsOf w).rsv &&& (fieldsOf r.mask).rsv = (fieldsOf r.base).rsv ∧
    ((fieldsOf w).t && (fieldsOf r.mask).t) = (fieldsOf r.base).t ∧
    (fieldsOf w).imm &&& (fieldsOf r.mask).imm = (fieldsOf r.base).imm := by
  rw [covers, beq_iff_eq, ← fieldsOf_inj, fieldsOf_and, ← Fields.mk.injEq]

/-- R76: the row of a request without operands fixes every bit. -/
theorem covers_iff_of_plain {r : TableRow} {op : BitVec 4} (hop : op = 0#4 ∨ op = 3#4 ∨ op = 4#4 ∨ op = 5#4)
    (hbase : fieldsOf r.base = ⟨op, 0#11, false, 0#16⟩)
    (hmask : fieldsOf r.mask = ⟨.allOnes 4, .allOnes 11, true, .allOnes 16⟩) (w : Word) :
    r.covers w = true ↔ (fieldsOf w).op = op ∧ (fieldsOf w).wf = true := by
  rw [TableRow.covers_iff, hbase, hmask]
  simp only [BitVec.and_allOnes, Bool.and_true]
  exact and_congr_right fun h => by rw [Fields.wf_of_plainOp (h ▸ hop), decide_eq_true_iff]

/-- R76: the words of a row are the legal words under the row's OP. -/
theorem covers_iff_wf {r : TableRow} (hr : r ∈ opcodeTable) (w : Word) :
    r.covers w = true ↔ (fieldsOf w).op = (fieldsOf r.base).op ∧ (fieldsOf w).wf = true := by
  simp only [opcodeTable, List.mem_cons, List.not_mem_nil, or_false] at hr
  rcases hr with rfl | rfl | rfl | rfl | rfl | rfl
  · exact covers_iff_of_plain (by decide) (by decide) (by decide) w
  · have hbase : fieldsOf 0x10000000#32 = ⟨1#4, 0#11, false, 0#16⟩ := by decide
    have hmask : fieldsOf 0xFFFE0000#32 = ⟨.allOnes 4, .allOnes 11, false, 0#16⟩ := by decide
    rw [TableRow.covers_iff, hbase, hmask]
    simp only [BitVec.and_allOnes, BitVec.and_zero, Bool.and_false, and_true]
    exact and_congr_right fun h => by rw [Fields.wf_of_encThrOp h, decide_eq_true_iff]
  · have hbase : fieldsOf 0x20000000#32 = ⟨2#4, 0#11, false, 0#16⟩ := by decide
    have hmask : fieldsOf 0xFFFEF800#32 = ⟨.allOnes 4, .allOnes 11, false, 0xF800#16⟩ := by decide
    rw [TableRow.covers_iff, hbase, hmask]
    simp only [BitVec.and_allOnes, Bool.and_false, true_and, and_codeMask_eq_zero_iff]
    exact and_congr_right fun h => by rw [Fields.wf_of_encCmdOp h, decide_eq_true_iff]
  · exact covers_iff_of_plain (by decide) (by decide) (by decide) w
  · exact covers_iff_of_plain (by decide) (by decide) (by decide) w
  · exact covers_iff_of_plain (by decide) (by decide) (by decide) w

/-- R75, R76: every request is encoded under its own row. -/
theorem encodesLegally : ∀ i : Instr, Laws.EncodesLegally.Statement i
  | .nop => Laws.EncodesLegally.nop
  | .encThr thr t => Laws.EncodesLegally.encThr thr t
  | .encCmd code t => Laws.EncodesLegally.encCmd code t
  | .genTrain => Laws.EncodesLegally.genTrain
  | .send => Laws.EncodesLegally.send
  | .tlmDecode => Laws.EncodesLegally.tlmDecode

/-- R76: no two rows share a name or an OP. -/
theorem opcodeTable_mnemonic_eq_iff_op : ∀ r ∈ opcodeTable, ∀ r' ∈ opcodeTable,
    r.mnemonic = r'.mnemonic ↔ (fieldsOf r.base).op = (fieldsOf r'.base).op := by
  decide

/-- R76: a request has the name of a row exactly when it is encoded under the row's OP. -/
theorem mnemonic_eq_iff_op {r : TableRow} (hr : r ∈ opcodeTable) (i : Instr) :
    i.mnemonic = r.mnemonic ↔ i.fields.op = (fieldsOf r.base).op := by
  obtain ⟨-, own, hown, hname, hop⟩ := encodesLegally i
  rw [← hname, ← hop]
  exact opcodeTable_mnemonic_eq_iff_op own hown r hr

/-- Settles O8: both sides say that the word is legal under the row's OP. -/
theorem decodeAgreesWithTable : Obligations.DecodeAgreesWithTable := by
  intro w r hr
  rw [covers_iff_wf hr]
  constructor
  · rintro ⟨hop, hwf⟩
    obtain ⟨i, hi⟩ := exists_decode_iff_wf.mpr hwf
    exact ⟨i, hi, by rw [mnemonic_eq_iff_op hr, ← decode_eq_ok_iff.mp hi, hop]⟩
  · rintro ⟨i, hi, hname⟩
    exact ⟨by rw [decode_eq_ok_iff.mp hi, (mnemonic_eq_iff_op hr i).mp hname], exists_decode_iff_wf.mp ⟨i, hi⟩⟩

end Sys2Proof

/-! The assembler's words and what the pseudo-requests put on the request port (30_encoding.md R83, R84). -/

namespace Sys2Proof

/-- Settles O4: fixed words, evaluated. -/
theorem writtenWordsDecode : Obligations.WrittenWordsDecode := by
  unfold Obligations.WrittenWordsDecode
  decide

/-- R75: with RSV = 0 a word is OP, T and IMM in their places. -/
theorem Fields.word_eq_or (op : BitVec 4) (t : Bool) (imm : BitVec 16) : Fields.word ⟨op, 0#11, t, imm⟩ =
    op.setWidth 32 <<< 28 ||| (BitVec.ofBool t).setWidth 32 <<< 16 ||| imm.setWidth 32 := by
  have h := BitVec.setWidth_append_append_append_eq_shiftLeft_setWidth_or (w'''' := 32) (b := op) (b' := 0#11)
    (b'' := BitVec.ofBool t) (b''' := imm)
  rw [BitVec.setWidth_eq] at h
  rw [Fields.word, h]
  simp

end Sys2Proof

namespace Sys2Proof.Machine

/-- R83: a well-formed statement assembles to its word. -/
@[simp] theorem assemble_of_wf {st : Stmt} (h : st.wf = true) : assemble st = some (stmtWord st) := if_pos h

/-- R83: an ill-formed statement is refused. -/
@[simp] theorem assemble_of_not_wf {st : Stmt} (h : st.wf = false) : assemble st = none := by simp [assemble, h]

/-- R83: a throttle is accepted as a rational exactly when it is k / 16384 for a k that 16 bits hold. -/
theorem thrArg_dec_wf_iff (r : Rat) :
    (ThrArg.dec r).wf = true ↔ ∃ k : Int, -32768 ≤ k ∧ k ≤ 32767 ∧ r * 16384 = k := by
  rw [ThrArg.wf, decide_eq_true_iff]
  constructor
  · rintro ⟨hden, hlo, hhi⟩
    exact ⟨_, hlo, hhi, (Rat.den_eq_one_iff _).mp hden |>.symm⟩
  · rintro ⟨k, hlo, hhi, hk⟩
    rw [hk]
    exact ⟨rfl, hlo, hhi⟩

/-- R83: IMM of the throttle k / 16384. -/
theorem thrImm_dec {r : Rat} {k : Int} (h : r * 16384 = k) : thrImm (.dec r) = BitVec.ofInt 16 k := by
  rw [thrImm, h, Rat.num_intCast]

/-- R83: the word of ENC_THR. -/
theorem encode_encThr (imm : BitVec 16) (t : Bool) : encode (.encThr imm t) =
    0x10000000#32 ||| (BitVec.ofBool t).setWidth 32 <<< 16 ||| imm.setWidth 32 :=
  Fields.word_eq_or 1#4 t imm

/-- R83: the word of ENC_CMD. -/
theorem encode_encCmd (code : Payload) (t : Bool) : encode (.encCmd code t) =
    0x20000000#32 ||| (BitVec.ofBool t).setWidth 32 <<< 16 ||| code.setWidth 32 := by
  rw [← BitVec.setWidth_setWidth (x := code) (v := 16) (by decide)]
  exact Fields.word_eq_or 2#4 t (code.setWidth 16)

/-- Settles O10, statement by statement. -/
theorem assemblerWords : Obligations.AssemblerWords := by
  refine ⟨by decide, fun imm t => ?_, fun k t hlo hhi => ?_, fun r t hne => ?_, fun code t hle => ?_,
    fun code t hlt => ?_, by decide, by decide, by decide, fun w => rfl⟩
  · rw [assemble_of_wf rfl, stmtWord, encode_encThr]; rfl
  · have hk : (k : Rat) / 16384 * 16384 = k := div_mul_cancel₀ _ (by norm_num)
    have hwf : (Stmt.encThr (.dec ((k : Rat) / 16384)) t).wf = true :=
      (thrArg_dec_wf_iff _).mpr ⟨k, hlo, hhi, hk⟩
    rw [assemble_of_wf hwf, stmtWord, encode_encThr, thrImm_dec hk]
  · apply assemble_of_not_wf
    rw [Stmt.wf, ← Bool.not_eq_true, thrArg_dec_wf_iff]
    rintro ⟨k, hlo, hhi, hk⟩
    exact hne k hlo hhi hk
  · have hwf : (Stmt.encCmd code t).wf = true := decide_eq_true hle
    have hcode : (BitVec.ofNat 11 code).setWidth 32 = BitVec.ofNat 32 code :=
      BitVec.eq_of_toNat_eq (by simp only [BitVec.toNat_setWidth, BitVec.toNat_ofNat]; omega)
    rw [assemble_of_wf hwf, stmtWord, encode_encCmd, hcode]
  · exact assemble_of_not_wf (decide_eq_false hlt.not_ge)

/-- The words of actions one after the other. -/
theorem actWords_append {as bs : List HostAct} {us vs : List Word} (ha : actWords as = some us)
    (hb : actWords bs = some vs) : actWords (as ++ bs) = some (us ++ vs) := by
  have hissued : issued (as ++ bs) = issued as ++ issued bs := List.filterMap_append
  rw [actWords] at *
  rw [hissued, List.mapM_append, ha, hb]; rfl

/-- The words of a list of groups of actions. -/
theorem actWords_flatMap {α : Type} {f : α → List HostAct} {g : α → List Word}
    (h : ∀ a, actWords (f a) = some (g a)) (l : List α) : actWords (l.flatMap f) = some (l.flatMap g) := by
  induction l with
  | nil => rfl
  | cons a l ih => rw [List.flatMap_cons, List.flatMap_cons]; exact actWords_append (h a) ih

/-- The words of actions repeated n times. -/
theorem actWords_replicate {as : List HostAct} {ws : List Word} (h : actWords as = some ws) (n : Nat) :
    actWords (List.replicate n as).flatten = some (List.replicate n ws).flatten := by
  induction n with
  | zero => rfl
  | succ n ih => rw [List.replicate_succ, List.replicate_succ]; exact actWords_append h ih

/-- R84: the words of an encoder request, GEN_TRAIN and SEND. -/
theorem actWords_transmit {st : Stmt} (h : st.wf = true) :
    actWords [.issue st, .issue .genTrain, .issue .send] =
      some [stmtWord st, encode .genTrain, encode .send] := by
  have hgen : Stmt.genTrain.wf = true := rfl
  have hsend : Stmt.send.wf = true := rfl
  simp [actWords, issued, h, hgen, hsend, stmtWord]

/-- R84: the words of TX_CMD with an 11-bit code. -/
theorem actWords_txCmdActs (code : Payload) (t : Bool) :
    actWords (txCmdActs code.toNat t) = some [encode (.encCmd code t), encode .genTrain, encode .send] := by
  have hwf : (Stmt.encCmd code.toNat t).wf = true := decide_eq_true (by omega)
  rw [txCmdActs, actWords_transmit hwf, stmtWord, BitVec.ofNat_toNat, BitVec.setWidth_eq]

/-- R84: a wait puts no word on the request port. -/
theorem actWords_wait (seconds : Rat) : actWords [.wait seconds] = some [] := rfl

/-- Settles O11: the words of the repetitions of TX_CMD, and the wait behind them. -/
theorem pseudoRequestWords : Obligations.PseudoRequestWords := by
  refine fun c => ⟨fun _ _ => rfl, fun _ _ => rfl, rfl, actWords_replicate (actWords_txCmdActs 0#11 false), ?_, ?_⟩
  · have hcodes := actWords_flatMap
      (fun k => actWords_replicate (actWords_txCmdActs k c.tlmEnTBit) c.tlmEnReps) c.tlmEnSeq
    have h := actWords_append hcodes (actWords_wait c.tlmEnSettle)
    rwa [List.append_nil] at h
  · exact List.getLast?_concat ..

end Sys2Proof.Machine

/-! The throttle payload on the Q2.14 port (30_encoding.md R77): it is the exact ThrottlePayload of 40_frame_encoder.md R102, and which
payloads a throttle can have (R107). -/

namespace Sys2Proof.Machine

/-- R8: the integer part of n / d. -/
theorem floor_toNat_div (n d : Nat) : ((n : Rat) / d).floor.toNat = n / d := by
  change ⌊(n : Rat) / d⌋.toNat = _
  rw [Rat.floor_natCast_div_natCast]; rfl

/-- R8: what n / d leaves over its integer part. -/
theorem div_sub_floor {d : Nat} (hd : 0 < d) (n : Nat) : (n : Rat) / d - (n / d : Nat) = (n % d : Nat) / d := by
  have hd' : (d : Rat) ≠ 0 := by positivity
  rw [div_sub' hd', div_left_inj' hd', sub_eq_iff_eq_add]
  exact_mod_cast (Nat.mod_add_div n d).symm

/-- R8: Round of a quotient, computed on integers, is Round of the exact rational. -/
theorem roundRat_div {d : Nat} (hd : 0 < d) (m : RoundMode) (n : Nat) : roundRat m ((n : Rat) / d) = roundQuot m n d := by
  have hd' : (0 : Rat) < d := by positivity
  have hbelow : ((n % d : Nat) : Rat) / d < 1 / 2 ↔ 2 * (n % d) < d := by
    rw [div_lt_div_iff₀ hd' two_pos, mul_comm, one_mul]; exact_mod_cast Iff.rfl
  have habove : 1 / 2 < ((n % d : Nat) : Rat) / d ↔ d < 2 * (n % d) := by
    rw [div_lt_div_iff₀ two_pos hd', mul_comm _ (2 : Rat), one_mul]; exact_mod_cast Iff.rfl
  simp only [roundRat, roundQuot, floor_toNat_div, div_sub_floor hd, hbelow, habove]

/-- R77, R102: clamping thr / 16384 to 0..1 is clamping thr to 0..16384. -/
theorem clampRat_div (thr : Int) : clampRat ((thr : Rat) / 16384) 0 1 = ((clampInt thr 0 16384).toNat : Rat) / 16384 := by
  have hlo : (thr : Rat) / 16384 < 0 ↔ thr < 0 := by
    rw [div_lt_iff₀ (by norm_num), zero_mul]; exact_mod_cast Iff.rfl
  have hhi : 1 < (thr : Rat) / 16384 ↔ 16384 < thr := by
    rw [lt_div_iff₀ (by norm_num), one_mul]; exact_mod_cast Iff.rfl
  simp only [clampRat, clampInt, hlo, hhi]
  split
  · simp
  · split
    · rw [show ((16384 : Int).toNat : Rat) = 16384 from rfl, div_self (by norm_num)]
    · have hnat : ((thr.toNat : Int) : Rat) = thr := by rw [Int.toNat_of_nonneg (by omega)]
      rw [← hnat, Int.cast_natCast]

/-- R8: Round of n / d takes the nearer neighbour, or at a tie one of the two. -/
theorem roundQuot_cases (m : RoundMode) (n d : Nat) :
    (roundQuot m n d = n / d ∧ 2 * (n % d) ≤ d) ∨ (roundQuot m n d = n / d + 1 ∧ d ≤ 2 * (n % d)) := by
  unfold roundQuot
  split
  · exact .inl ⟨rfl, by omega⟩
  · split
    · exact .inr ⟨rfl, by omega⟩
    · cases m with
      | halfEven =>
        dsimp only
        split
        · exact .inl ⟨rfl, by omega⟩
        · exact .inr ⟨rfl, by omega⟩
      | halfUp => exact .inr ⟨rfl, by omega⟩

theorem clampInt_toNat_le (thr : Int) : (clampInt thr 0 16384).toNat ≤ 16384 := by
  unfold clampInt
  split
  · decide
  · split <;> omega

/-- R102: the payload as a number; it fits in 11 bits. -/
theorem throttlePayload_toNat (m : RoundMode) (thr : Int) : (throttlePayload m thr).toNat =
    if (clampInt thr 0 16384).toNat = 0 then 0
    else roundQuot m ((clampInt thr 0 16384).toNat * 2000) 16384 + 47 := by
  have hclamp := clampInt_toNat_le thr
  unfold throttlePayload
  split
  · rw [if_pos ‹_›]; rfl
  · rw [if_neg ‹_›, BitVec.toNat_ofNat]
    obtain ⟨e, _⟩ | ⟨e, _⟩ := roundQuot_cases m ((clampInt thr 0 16384).toNat * 2000) 16384 <;> omega

/-- Settles O16: the integers that the port computes with are those of the exact rational over 16384. -/
theorem portPayloadIsExact : Obligations.PortPayloadIsExact := by
  intro m imm
  have hzero (c : Nat) : (c : Rat) / 16384 = 0 ↔ c = 0 := by simp
  have hround (c : Nat) : roundRat m ((c : Rat) / 16384 * 2000) = roundQuot m (c * 2000) 16384 := by
    rw [← roundRat_div (by decide)]; congr 1; push_cast; ring
  simp only [throttlePayload_toNat, throttlePayloadRat, throttleValue, clampRat_div, hzero, hround]

/-- R102: no throttle has a payload in 1..46. -/
theorem throttlePayload_eq_zero_or_ge (m : RoundMode) (thr : Int) :
    (throttlePayload m thr).toNat = 0 ∨ 47 ≤ (throttlePayload m thr).toNat := by
  rw [throttlePayload_toNat]
  split
  · exact .inl rfl
  · exact .inr (Nat.le_add_left ..)

/-- R107: a throttle for the payload 47 + q: the port value nearest to q / 2000. -/
def thrOfStep (q : Nat) : BitVec 16 := BitVec.ofNat 16 ((q * 16384 + 1000) / 2000)

/-- R77: that port value is in range. -/
theorem thrOperand_thrOfStep {q : Nat} (hq : q ≤ 2000) : thrOperand (thrOfStep q) = ((q * 16384 + 1000) / 2000 : Nat) := by
  have hmax : (q * 16384 + 1000) / 2000 ≤ 16384 := by omega
  have hport : (thrOfStep q).toNat = (q * 16384 + 1000) / 2000 := by
    rw [thrOfStep, BitVec.toNat_ofNat, Nat.mod_eq_of_lt (by omega)]
  rw [thrOperand, BitVec.toInt_eq_toNat_of_lt (by omega), hport]

/-- R107: that throttle has this payload in either rounding mode, as it lies less than 1/2 from q when scaled to 2000. -/
theorem throttlePayload_thrOfStep (m : RoundMode) {q : Nat} (h1 : 1 ≤ q) (hq : q ≤ 2000) :
    (throttlePayload m (thrOperand (thrOfStep q))).toNat = q + 47 := by
  have hclamp : (clampInt ((q * 16384 + 1000) / 2000 : Nat) 0 16384).toNat = (q * 16384 + 1000) / 2000 := by
    rw [clampInt, if_neg (by omega), if_neg (by omega), Int.toNat_natCast]
  rw [throttlePayload_toNat, thrOperand_thrOfStep hq, hclamp, if_neg (by omega)]
  obtain ⟨e, hr⟩ | ⟨e, hr⟩ := roundQuot_cases m ((q * 16384 + 1000) / 2000 * 2000) 16384 <;> omega

end Sys2Proof.Machine

/-! The fields of a built frame (30_encoding.md R70, R71, R101). -/

namespace Sys2Proof.Machine

/-- R70, R71: the number that the concatenation of two bit vectors stands for. -/
theorem toNat_append_eq_mul_add {a b : Nat} (x : BitVec a) (y : BitVec b) : (x ++ y).toNat = x.toNat * 2 ^ b + y.toNat := by
  rw [BitVec.toNat_append, ← Nat.shiftLeft_add_eq_or_of_lt y.isLt, Nat.shiftLeft_eq]

/-- R71: the checksummed part of a frame as a number. -/
theorem upper12_toNat (p : Payload) (t : Bool) : (upper12 p t).toNat = 2 * p.toNat + t.toNat := by
  rw [upper12, toNat_append_eq_mul_add, BitVec.toNat_ofBool, mul_comm, pow_one]

/-- R70, R101: the payload field of a built frame. -/
@[simp] theorem framePayload_makeFrame (p : Payload) (t : Bool) : framePayload (makeFrame p t) = p := by
  rw [framePayload, makeFrame, BitVec.extractLsb'_append_eq_of_le (by decide)]
  exact BitVec.extractLsb'_append_eq_left

/-- R70, R101: the telemetry-request field of a built frame. -/
@[simp] theorem frameTreq_makeFrame (p : Payload) (t : Bool) : frameTreq (makeFrame p t) = t := by
  simp only [frameTreq, makeFrame, upper12, BitVec.getLsbD_append]
  simp

/-- Settles O13: the fields in their places, and the number as 16 times the upper 12 bits plus the checksum. -/
theorem frameLayout : Obligations.FrameLayout := by
  refine fun p t => ⟨framePayload_makeFrame p t, frameTreq_makeFrame p t, BitVec.extractLsb'_append_eq_right,
    upper12_toNat p t, ?_⟩
  rw [makeFrame, toNat_append_eq_mul_add, upper12_toNat, mul_comm]; rfl

end Sys2Proof.Machine

/-! ENC_THR against ENC_CMD, and the three steps of TX_THR (30_encoding.md R82, R84). -/

namespace Sys2Proof.Laws

open Sys2Proof.Machine Sys2Proof.Safety

/-- R104, R105: a throttle and the command of its payload leave the same state. -/
theorem exec_encThr_eq_exec_encCmd {thr : BitVec 16} {p : Payload}
    (h : throttlePayload Config.cfg.roundMode (thrOperand thr) = p) (t : Bool) (s : State) :
    exec (.encThr thr t) s = exec (.encCmd p t) s := by
  rw [exec_eq_after, exec_eq_after, after, after, h]

/-- Settles O25: a frame carries its payload, so the frames meet exactly where the payloads do. -/
theorem commandAndThrottleFramesMeet : Obligations.CommandAndThrottleFramesMeet := by
  refine ⟨fun p hp => ⟨thrOfStep (p.toNat - 47), exec_encThr_eq_exec_encCmd ?_⟩, exec_encThr_eq_exec_encCmd rfl,
    fun p thr t u s hlo hhi h => ?_⟩
  · apply BitVec.eq_of_toNat_eq
    rw [throttlePayload_thrOfStep _ (by omega) (by omega)]
    omega
  · rw [exec_eq_after, exec_eq_after, Host.Outcome.next.injEq] at h
    have hframe := congrArg (framePayload ·.frame) h
    simp only [after, State.setReqIllegal_frame, State.setFrame_frame, framePayload_makeFrame] at hframe
    subst hframe
    obtain hzero | hge := throttlePayload_eq_zero_or_ge Config.cfg.roundMode (thrOperand thr) <;> omega

/-- R102, R104: the frame that ENC_THR builds is that of the exact throttle. -/
theorem throttlePayload_eq_exact (thr : BitVec 16) : throttlePayload Config.cfg.roundMode (thrOperand thr) =
    BitVec.ofNat 11 (throttlePayloadRat Config.cfg.roundMode (throttleValue thr)) := by
  rw [← portPayloadIsExact, BitVec.ofNat_toNat, BitVec.setWidth_eq]

/-- R41: a run whose first step is that of a ready block which performs the word of a request. -/
theorem runSteps_of_encoded {s : State} {i : Instr} {ws : List Word} {ts : List Turn} (hs : s.sched = .host :: ts)
    (hr : s.reqs = encode i :: ws) (hb : s.genBusy = false) (n : Nat) :
    runSteps (n + 1) s = runSteps n (after i ((s.setSched ts).setReqs ws)) := by
  rw [runSteps_succ, stepped_of_ready hs hr hb, performed_of_ok (decode_eq_ok_iff_encode.mpr rfl)]

/-- Settles O35: the three steps of ENC_THR, GEN_TRAIN and SEND, of which only the last makes the block busy. -/
theorem transmitThrottleSequence : Obligations.TransmitThrottleSequence := by
  intro s thr t ws ws' ts hws hb hr hs f
  have hwords := actWords_transmit (st := .encThr (.hex thr) t) rfl
  obtain rfl := Option.some.inj (hwords.symm.trans hws)
  have hframe : makeFrame (throttlePayload Config.cfg.roundMode (thrOperand thr)) t = f := by
    rw [throttlePayload_eq_exact]
  calc runSteps 3 s
    _ = runSteps 2 _ := runSteps_of_encoded (i := .encThr thr t) hs hr hb 2
    _ = runSteps 1 _ := runSteps_of_encoded (i := .genTrain) rfl rfl (by exact hb) 1
    _ = runSteps 0 _ := runSteps_of_encoded (i := .send) rfl rfl (by exact hb) 0
    _ = _ := by simp only [runSteps_zero, after, hframe]; rfl

end Sys2Proof.Laws

/-! The checksum and the consistency of a frame (40_frame_encoder.md R100, R106). -/

namespace Sys2Proof.Machine

/-- R100: a bit of the checksum is the XOR of the three nibbles' bits in its place. -/
theorem checksum_getLsbD (v : BitVec 12) {j : Nat} (hj : j < 4) :
    (checksum v).getLsbD j = ((v.getLsbD (8 + j) ^^ v.getLsbD (4 + j)) ^^ v.getLsbD j) := by
  simp [checksum, hj]

/-- R100: the mask of the second form keeps the low nibble. -/
theorem nibbleMask_getLsbD : ∀ i < 12, (0xF#12).getLsbD i = decide (i < 4) := by decide

/-- R100: both forms of the checksum give the same number. -/
theorem checksum_setWidth (v : BitVec 12) : (checksum v).setWidth 12 = checksumMasked v := by
  apply BitVec.eq_of_getLsbD_eq
  intro i hi
  have hmasked : (checksumMasked v).getLsbD i =
      (((v.getLsbD i ^^ v.getLsbD (4 + i)) ^^ v.getLsbD (8 + i)) && decide (i < 4)) := by
    simp only [checksumMasked, BitVec.getLsbD_and, BitVec.getLsbD_xor, BitVec.getLsbD_ushiftRight,
      nibbleMask_getLsbD i hi]
  rw [hmasked, BitVec.getLsbD_setWidth, decide_eq_true hi, Bool.true_and]
  by_cases hlow : i < 4
  · rw [checksum_getLsbD v hlow, decide_eq_true hlow, Bool.and_true, Bool.xor_comm, Bool.xor_comm (v.getLsbD (8 + i)),
      Bool.xor_assoc]
  · rw [BitVec.getLsbD_of_ge _ _ (by omega), decide_eq_false hlow, Bool.and_false]

/-- Settles O12, bit by bit. -/
theorem checksumIsNibbleXor : Obligations.ChecksumIsNibbleXor :=
  fun v => ⟨fun _ hj => checksum_getLsbD v hj, checksum_setWidth v⟩

theorem frameOK_iff (f : Frame) : frameOK f = true ↔ f.extractLsb' 0 4 = checksum (f.extractLsb' 4 12) := by
  rw [frameOK, beq_iff_eq]

/-- R106: a change within the checksum nibble of a consistent frame leaves it inconsistent. -/
theorem frameOK_xor_of_upper_zero {f m : Frame} (hf : frameOK f = true) (hupper : m.extractLsb' 4 12 = 0#12)
    (hlow : m.extractLsb' 0 4 ≠ 0#4) : frameOK (f ^^^ m) = false := by
  rw [frameOK_iff] at hf
  rw [Bool.eq_false_iff, Ne, frameOK_iff, BitVec.extractLsb'_xor, BitVec.extractLsb'_xor, hupper, BitVec.xor_zero, ← hf]
  simpa using hlow

/-- R106: one bit of the checksum nibble, as a mask. -/
theorem checksumBit_extract : ∀ j < 4,
    (1#16 <<< j).extractLsb' 4 12 = 0#12 ∧ (1#16 <<< j).extractLsb' 0 4 ≠ 0#4 := by decide

/-- Settles O14: the flip changes the checksum nibble and not the 12 bits it is computed from. -/
theorem checksumFlipDetected : Obligations.ChecksumFlipDetected := by
  refine ⟨frameOK_iff, frameOK_makeFrame, fun f j hf hj => ?_⟩
  obtain ⟨hupper, hlow⟩ := checksumBit_extract j hj
  exact frameOK_xor_of_upper_zero hf hupper hlow

end Sys2Proof.Machine

/-! The range of the throttle payload on the Q2.14 port, its steps, and where the rounding modes part (40_frame_encoder.md R102, R107,
R108; 00_scope.md R8). -/

namespace Sys2Proof.Machine

/-- R102: no throttle, no payload. -/
theorem throttlePayload_of_nonpos (m : RoundMode) {thr : Int} (h : thr ≤ 0) : (throttlePayload m thr).toNat = 0 := by
  have hclamp : (clampInt thr 0 16384).toNat = 0 := by
    unfold clampInt
    split
    · rfl
    · split <;> omega
  rw [throttlePayload_toNat, if_pos hclamp]

/-- R102: in 0 < thr ≤ 16384 the clamp does nothing. -/
theorem throttlePayload_of_pos (m : RoundMode) {thr : Int} (hpos : 0 < thr) (hle : thr ≤ 16384) :
    (throttlePayload m thr).toNat = roundQuot m (thr.toNat * 2000) 16384 + 47 := by
  have hclamp : clampInt thr 0 16384 = thr := by rw [clampInt, if_neg (by omega), if_neg (by omega)]
  rw [throttlePayload_toNat, hclamp, if_neg (by omega)]

/-- R102: from full throttle on the payload is the largest one. -/
theorem throttlePayload_of_full (m : RoundMode) {thr : Int} (h : 16384 ≤ thr) : (throttlePayload m thr).toNat = 2047 := by
  have hclamp : clampInt thr 0 16384 = 16384 := by
    unfold clampInt
    rw [if_neg (by omega)]
    split <;> omega
  rw [throttlePayload_toNat, hclamp]
  cases m <;> rfl

/-- R8, R102: between 0 and full throttle the payload is 47 + q for a q at most 1/2 from thr × 2000 / 16384 = thr × 125 / 1024. -/
theorem throttlePayload_nearest (m : RoundMode) {thr : Int} (hpos : 0 < thr) (hle : thr ≤ 16384) :
    47 ≤ (throttlePayload m thr).toNat ∧ 125 * thr - 512 ≤ 1024 * ((throttlePayload m thr).toNat - 47) ∧
      1024 * ((throttlePayload m thr).toNat - 47) ≤ 125 * thr + 512 := by
  rw [throttlePayload_of_pos m hpos hle]
  obtain ⟨e, hr⟩ | ⟨e, hr⟩ := roundQuot_cases m (thr.toNat * 2000) 16384 <;> omega

/-- R102: where a throttle lies against 0 and full throttle, and what that says of its payload. -/
theorem throttlePayload_cases (m : RoundMode) (thr : Int) :
    (thr ≤ 0 ∧ (throttlePayload m thr).toNat = 0) ∨
    (0 < thr ∧ thr ≤ 16384 ∧ 47 ≤ (throttlePayload m thr).toNat ∧
      125 * thr - 512 ≤ 1024 * ((throttlePayload m thr).toNat - 47) ∧
      1024 * ((throttlePayload m thr).toNat - 47) ≤ 125 * thr + 512) ∨
    (16384 < thr ∧ (throttlePayload m thr).toNat = 2047) := by
  rcases le_or_gt thr 0 with h0 | h0
  · exact .inl ⟨h0, throttlePayload_of_nonpos m h0⟩
  · rcases le_or_gt thr 16384 with h1 | h1
    · exact .inr (.inl ⟨h0, h1, throttlePayload_nearest m h0 h1⟩)
    · exact .inr (.inr ⟨h1, throttlePayload_of_full m h1.le⟩)

/-- R107: more throttle never gives a smaller payload: the two roundings move q by at most 1 together, and one step of thr takes
125/1024 off that, so q falls by less than 1. -/
theorem throttlePayload_mono (m : RoundMode) {thr thr' : Int} (h : thr ≤ thr') :
    (throttlePayload m thr).toNat ≤ (throttlePayload m thr').toNat := by
  obtain rfl | hlt := h.eq_or_lt
  · exact le_rfl
  · have hcases := throttlePayload_cases m thr
    have hcases' := throttlePayload_cases m thr'
    omega

/-- Settles O18, by where the throttle lies. -/
theorem payloadRange : Obligations.PayloadRange := by
  intro m imm
  have hcases := throttlePayload_cases m (thrOperand imm)
  refine ⟨?_, fun hpos => ⟨?_, ?_⟩, fun hfull => ?_, fun h5 => ?_⟩ <;> omega

/-- Settles O19: the port computes with thr as an integer. -/
theorem payloadMonotone : Obligations.PayloadMonotone := fun m _ _ => throttlePayload_mono m

/-- Settles O20: the bounds hold between 0 and full throttle, and `thrOfStep` names a throttle for each payload. -/
theorem everyThrottlePayloadReached : Obligations.EveryThrottlePayloadReached := by
  refine fun m => ⟨fun imm hlo hhi => ?_, fun p hp => ⟨thrOfStep (p.toNat - 47), ?_⟩⟩
  · obtain ⟨hge, hlower, hupper⟩ := throttlePayload_nearest m (by omega) hhi
    omega
  · have hpayload := throttlePayload_thrOfStep m (q := p.toNat - 47) (by omega) (by omega)
    rw [thrOperand_thrOfStep (by omega)] at hpayload ⊢
    refine ⟨by omega, by omega, BitVec.eq_of_toNat_eq ?_⟩
    omega

/-- R8: the two modes round n / d apart exactly at a tie whose lower neighbour is even. -/
theorem roundQuot_modes_ne_iff (n d : Nat) :
    roundQuot .halfUp n d ≠ roundQuot .halfEven n d ↔ 2 * (n % d) = d ∧ n / d % 2 = 0 := by
  unfold roundQuot
  rcases lt_trichotomy (2 * (n % d)) d with h | h | h
  · simp [h, h.ne]
  · simp [h]
  · simp [h, h.ne', h.not_gt]

/-- R104: a tie of c × 2000 / 16384 is one of c × 125 / 1024, and these are at c mod 1024 = 512, as 125 is odd. -/
theorem scaledTie_iff (c : Nat) : 2 * (c * 2000 % 16384) = 16384 ↔ c % 1024 = 512 := by omega

/-- Settles O21: on the port the payloads differ exactly where the two roundings of thr × 2000 / 16384 do. -/
theorem roundModesPartAtTies : Obligations.RoundModesPartAtTies := by
  intro imm hpos hle
  obtain ⟨c, hc⟩ := Int.eq_ofNat_of_zero_le (zero_le_one.trans hpos)
  rw [hc] at hpos hle ⊢
  have hquot : c * 2000 / 16384 = c * 125 / 1024 := by omega
  rw [Ne, ← BitVec.toNat_inj, throttlePayload_of_pos _ hpos hle, throttlePayload_of_pos _ hpos hle,
    Nat.add_right_cancel_iff, Int.toNat_natCast, ← Ne, roundQuot_modes_ne_iff, scaledTie_iff, hquot]
  norm_cast

/-- R8: Round of a non-negative rational is 0 below the half, and at the half under HALF_EVEN. -/
theorem roundRat_eq_zero_iff (m : RoundMode) {x : Rat} (hx : 0 ≤ x) :
    roundRat m x = 0 ↔ x < 1 / 2 ∨ (x = 1 / 2 ∧ m = .halfEven) := by
  have hnearest := roundIsNearest m x hx
  constructor
  · intro h0
    simp only [h0, Nat.cast_zero, sub_zero, abs_of_nonneg hx] at hnearest
    obtain hbelow | ⟨htie, -, hup⟩ := hnearest
    · exact .inl hbelow
    · refine .inr ⟨htie, ?_⟩
      cases m with
      | halfEven => rfl
      | halfUp => exact absurd (hup rfl) hx.not_gt
  · have hhalf : |x - (roundRat m x : Rat)| ≤ 1 / 2 := hnearest.elim le_of_lt (·.1.le)
    have hle : (roundRat m x : Rat) ≤ x + 1 / 2 := by linarith [abs_le.mp hhalf]
    rintro (hbelow | ⟨rfl, rfl⟩)
    · have hlt : (roundRat m x : Rat) < (1 : Nat) := by push_cast; linarith
      exact Nat.lt_one_iff.mp (Nat.cast_lt.mp hlt)
    · exact_mod_cast roundRat_div two_pos .halfEven 1

/-- R102: a throttle that is not positive has payload 0. -/
theorem throttlePayloadRat_of_nonpos (m : RoundMode) {v : Rat} (h : v ≤ 0) : throttlePayloadRat m v = 0 := by
  have hclamp : clampRat v 0 1 = 0 := by
    unfold clampRat
    split
    · rfl
    · rw [if_neg (by linarith)]; linarith
  rw [throttlePayloadRat, hclamp, if_pos rfl]

/-- R102: a positive throttle is clamped to 1 and rounded in steps of 1/2000. -/
theorem throttlePayloadRat_of_pos (m : RoundMode) {v : Rat} (h : 0 < v) :
    throttlePayloadRat m v = roundRat m (min v 1 * 2000) + 47 := by
  have hclamp : clampRat v 0 1 = min v 1 := by
    rw [clampRat, if_neg h.not_gt]
    rcases le_or_gt v 1 with h1 | h1
    · rw [if_neg h1.not_gt, min_eq_left h1]
    · rw [if_pos h1, min_eq_right h1.le]
  rw [throttlePayloadRat, hclamp, if_neg (by positivity)]

/-- R108: payload 47 for an exact throttle. -/
theorem throttlePayloadRat_eq_47_iff (m : RoundMode) (v : Rat) :
    throttlePayloadRat m v = 47 ↔ 0 < v ∧ (v < 1 / 4000 ∨ (v = 1 / 4000 ∧ m = .halfEven)) := by
  rcases le_or_gt v 0 with h | h
  · simp [throttlePayloadRat_of_nonpos m h, h.not_gt]
  · rw [throttlePayloadRat_of_pos m h, Nat.add_eq_right, roundRat_eq_zero_iff m (by positivity)]
    rcases le_total v 1 with h1 | h1
    · have hlt : v * 2000 < 1 / 2 ↔ v < 1 / 4000 := by constructor <;> intro <;> linarith
      have heq : v * 2000 = 1 / 2 ↔ v = 1 / 4000 := by constructor <;> intro <;> linarith
      rw [min_eq_left h1, hlt, heq, and_iff_right h]
    · rw [min_eq_right h1]
      exact iff_of_false (by norm_num) (by rintro ⟨-, hlt | ⟨heq, -⟩⟩ <;> linarith)

/-- Settles O17: on the port 1..4 are the throttles at most 1/2 of a step of the payload above 0. -/
theorem lowBandGivesPayload47 : Obligations.LowBandGivesPayload47 := by
  refine ⟨throttlePayloadRat_eq_47_iff, fun m imm => ?_⟩
  have hcases := throttlePayload_cases m (thrOperand imm)
  omega

end Sys2Proof.Machine

/-! What the requests of the frame encoder leave (40_frame_encoder.md R103 to R105). -/

namespace Sys2Proof.Laws

open Sys2Proof.Machine

/-- Settles O22: the word of NOP is 0, and NOP only clears the flag. -/
theorem nopResult : Obligations.NopResult :=
  ⟨fun _ => decode_eq_ok_iff_encode.trans eq_comm, exec_eq_after .nop⟩

/-- Settles O23: the payload of the port is that of the exact throttle. -/
theorem encThrResult : Obligations.EncThrResult := by
  intro thr t s
  rw [exec_eq_after, after, throttlePayload_eq_exact]; rfl

/-- R101, R105: the frame of command 0 with the telemetry request. -/
theorem makeFrame_zero_true : makeFrame 0#11 true = 0x0011#16 := by decide

/-- Settles O24: the code is the payload as it stands. -/
theorem encCmdResult : Obligations.EncCmdResult := by
  refine ⟨fun code t => exec_eq_after (.encCmd code t), fun s => ?_⟩
  rw [exec_eq_after, after, makeFrame_zero_true]; rfl

end Sys2Proof.Laws

/-! The entries of a train, pair by pair: the high time of a frame bit and what is left of the bit period (41_pulse_train.md R130 to
R132, R136, R138). -/

namespace Sys2Proof.Machine

/-- R130: an even duration is the high time of its frame bit. -/
@[simp] theorem duration_even (c : Cfg) (f : Frame) (i : Nat) : duration c f (2 * i) = highTime c (f.getLsbD (15 - i)) := by
  simp [duration]

/-- R130: an odd duration is the rest of the bit period, and the last one has the pause too. -/
@[simp] theorem duration_odd (c : Cfg) (f : Frame) (i : Nat) : duration c f (2 * i + 1) =
    c.tBit - highTime c (f.getLsbD (15 - i)) + if i = 15 then c.tPause else 0 := by
  have hhalf : (2 * i + 1) / 2 = i := by omega
  have hlast : 2 * i + 1 = 31 ↔ i = 15 := by omega
  simp only [duration, if_neg (show ¬ (2 * i + 1) % 2 = 0 by omega), hhalf, hlast]
  split <;> rfl

section

variable {c : Cfg} (hc : c.wf = true)
include hc

theorem highTime_pos (b : Bool) : 0 < highTime c b :=
  (Cfg.wf_times hc).1.trans_le (highTime_bounds hc b).1

theorem highTime_lt_tBit (b : Bool) : highTime c b < c.tBit := (highTime_bounds hc b).2.2

/-- R130, R6(a): the high time tells the frame bit. -/
theorem highTime_eq_t1h_iff (b : Bool) : highTime c b = c.t1h ↔ b = true := by
  obtain ⟨_, hlt, _⟩ := Cfg.wf_times hc
  cases b with
  | false => exact iff_of_false hlt.ne (by decide)
  | true => exact iff_of_true rfl rfl

/-- R131: no duration is empty. -/
theorem duration_pos (f : Frame) (k : Nat) : 0 < duration c f k := by
  obtain ⟨i, rfl | rfl⟩ := Nat.even_or_odd' k
  · rw [duration_even]
    exact highTime_pos hc _
  · rw [duration_odd]
    have := highTime_lt_tBit hc (f.getLsbD (15 - i))
    omega

/-- R130: the on entry of a pair. -/
theorem trainOf_even (f : Frame) {i : Nat} (hi : i < 16) :
    ((trainOf c f)[2 * i]).toNat = highTime c (f.getLsbD (15 - i)) := by
  rw [trainOf_toNat hc, duration_even]

/-- R130: the off entry of a pair. -/
theorem trainOf_odd (f : Frame) {i : Nat} (hi : i < 16) : ((trainOf c f)[2 * i + 1]).toNat =
    c.tBit - highTime c (f.getLsbD (15 - i)) + if i = 15 then c.tPause else 0 := by
  rw [trainOf_toNat hc, duration_odd]

/-- R131: a pair sums to T_BIT, and the last one to the pause more. -/
theorem trainOf_pair (f : Frame) {i : Nat} (hi : i < 16) :
    ((trainOf c f)[2 * i]).toNat + ((trainOf c f)[2 * i + 1]).toNat = c.tBit + if i = 15 then c.tPause else 0 := by
  rw [trainOf_even hc f hi, trainOf_odd hc f hi, ← Nat.add_assoc, Nat.add_sub_cancel' (highTime_lt_tBit hc _).le]

end

/-- Settles O26: the two entries of a pair. -/
theorem trainEntries : Obligations.TrainEntries :=
  fun _ f hc _ hi => ⟨trainOf_even hc f hi, trainOf_odd hc f hi⟩

/-- Settles O27: the durations are positive and fit, and only the last pair has the pause. -/
theorem trainPairsSumToBitPeriod : Obligations.TrainPairsSumToBitPeriod := by
  refine fun c f hc => ⟨fun k hk => ?_, fun i hi => ?_⟩
  · rw [trainOf_toNat hc f k hk]
    exact ⟨duration_pos hc f k, rfl⟩
  · rw [trainOf_pair hc f (by omega), if_neg (by omega), Nat.add_zero]

/-- Settles O29: both low times are those of the same bit value, and only the last has the pause. -/
theorem lastEntryHasThePause : Obligations.LastEntryHasThePause := by
  intro c f hc
  have hlow : ((trainOf c f)[31]).toNat = c.tBit - highTime c (f.getLsbD 0) + c.tPause := trainOf_odd hc f (i := 15) (by decide)
  have hhigh : ((trainOf c f)[30]).toNat = highTime c (f.getLsbD 0) := trainOf_even hc f (i := 15) (by decide)
  refine ⟨?_, ?_, fun g i hi hbit => ?_⟩
  · rw [hlow, hhigh, Nat.add_sub_cancel]
  · rw [hlow]
    exact Nat.le_add_left ..
  · rw [hlow, trainOf_odd hc g (by omega), hbit, if_neg (by omega), Nat.add_zero]

/-- Settles O30, bit by bit: entry 2i is T1H exactly when frame bit 15 - i is 1. -/
theorem trainCarriesFrame : Obligations.TrainCarriesFrame := by
  intro c f hc
  apply BitVec.eq_of_getMsbD_eq
  intro i hi
  simp only [frameOfTrain, BitVec.getMsbD_ofFnBE, trainOf_even hc f hi, highTime_eq_t1h_iff hc]
  simp [BitVec.getMsbD, hi]

/-- R136: the time a train takes is the sum of its pairs. -/
theorem transmissionTicks_eq_sum {w : Nat} (t : Vector (BitVec w) 32) :
    transmissionTicks t = ∑ i : Fin 16, ((t[2 * i.val]).toNat + (t[2 * i.val + 1]).toNat) := by
  rw [transmissionTicks, lineSegments, List.map_flatMap, List.flatMap_def, List.sum_flatten, List.map_map,
    Fin.sum_univ_def]
  simp [Function.comp_def]

/-- R136: a train takes sixteen bit periods, and one pause with the last of them. -/
theorem transmissionTicks_trainOf {c : Cfg} (hc : c.wf = true) (f : Frame) :
    transmissionTicks (trainOf c f) = 16 * c.tBit + c.tPause := by
  calc transmissionTicks (trainOf c f)
    _ = ∑ i : Fin 16, (c.tBit + if i = Fin.last 15 then c.tPause else 0) := by
      rw [transmissionTicks_eq_sum]
      refine Finset.sum_congr rfl fun i _ => ?_
      rw [trainOf_pair hc f i.isLt]
      simp [Fin.ext_iff]
    _ = 16 * c.tBit + c.tPause := by simp [Finset.sum_add_distrib]

end Sys2Proof.Machine

/-! The line of a train, tick by tick (41_pulse_train.md R135 to R137). -/

namespace Sys2Proof.Machine

/-- R136: the line is driven for the time the train takes. -/
theorem lineTicks_length {w : Nat} (t : Vector (BitVec w) 32) : (lineTicks t).length = transmissionTicks t := by
  simp [lineTicks, transmissionTicks, List.length_flatMap]

section

variable {c : Cfg} (hc : c.wf = true) (f : Frame)
include hc

theorem lineTicks_trainOf_length : (lineTicks (trainOf c f)).length = 16 * c.tBit + c.tPause := by
  rw [lineTicks_length, transmissionTicks_trainOf hc]

/-- R131, R135: a pair takes T_BIT ticks on the line, and the last one the pause more. -/
theorem pairTicks_trainOf_length (i : Fin 16) :
    (pairTicks (trainOf c f) i).length = c.tBit + if i.val = 15 then c.tPause else 0 := by
  rw [pairTicks_length, trainOf_pair hc f i.isLt]

/-- R132, R135: the level at tick j of the pair that sends frame bit 15 - i, the pause being part of the last pair. -/
theorem lineTicks_trainOf_getElem? {i j : Nat} (hi : i < 16) (hj : j < c.tBit + if i = 15 then c.tPause else 0) :
    (lineTicks (trainOf c f))[i * c.tBit + j]? = some (decide (j < highTime c (f.getLsbD (15 - i)))) := by
  have hlen : j < (pairTicks (trainOf c f) ⟨i, hi⟩).length := by rwa [pairTicks_trainOf_length hc]
  have hbefore : ∀ k < i, ∀ x, ((List.finRange 16).map (pairTicks (trainOf c f)))[k]? = some x → x.length = c.tBit := by
    intro k hk x hx
    have hk16 : k < 16 := hk.trans hi
    obtain rfl : pairTicks (trainOf c f) ⟨k, hk16⟩ = x := by simpa [hk16] using hx
    rw [pairTicks_trainOf_length hc, if_neg (by simp; omega), Nat.add_zero]
  rw [lineTicks_eq_flatten, flatten_getElem?_chunk hbefore (y := pairTicks (trainOf c f) ⟨i, hi⟩) (by simp [hi]) hlen,
    pairTicks_getElem? _ _ hlen, trainOf_even hc f hi]

/-- R135, R137: the pause is low. -/
theorem lineTicks_trainOf_pause {j : Nat} (hj : j < c.tPause) :
    (lineTicks (trainOf c f))[16 * c.tBit + j]? = some false := by
  have hlow := (highTime_lt_tBit hc (f.getLsbD (15 - 15))).trans_le (Nat.le_add_right c.tBit j)
  have htick : 16 * c.tBit + j = 15 * c.tBit + (c.tBit + j) := by omega
  rw [htick, lineTicks_trainOf_getElem? hc f (i := 15) (by decide) (by simpa using hj)]
  rw [decide_eq_false hlow.not_gt]

end

/-- Settles O31: a tick is read in the pair it lies in, and the first and the last tick are such ticks. -/
theorem lineShowsTrain : Obligations.LineShowsTrain := by
  intro c f hc
  have hlen := lineTicks_trainOf_length hc f
  have hpause := Cfg.wf_pause hc
  refine ⟨hlen, fun i hi j hj => lineTicks_trainOf_getElem? hc f hi (by omega),
    fun j hj => lineTicks_trainOf_pause hc f hj, ?_, ?_, fun n => ⟨List.take_prefix .., ?_⟩⟩
  · have hhigh := highTime_pos hc (f.getLsbD 15)
    have hbit := hhigh.trans (highTime_lt_tBit hc _)
    have hfirst := lineTicks_trainOf_getElem? hc f (i := 0) (j := 0) (by decide) (hbit.trans_le (Nat.le_add_right ..))
    rw [Nat.zero_mul, decide_eq_true hhigh] at hfirst
    rw [List.head?_eq_getElem?, hfirst]; rfl
  · have hlast : 16 * c.tBit + c.tPause - 1 = 16 * c.tBit + (c.tPause - 1) := by omega
    rw [List.getLast?_eq_getElem?, hlen, hlast]
    exact lineTicks_trainOf_pause hc f (by omega)
  · rw [lineUntilReset, List.length_take, hlen]

end Sys2Proof.Machine

/-! What the requests of the pulse-train timer leave, and the wait for the generator (41_pulse_train.md R133 to R135; 10_state.md
R37). -/

namespace Sys2Proof.Laws

open Sys2Proof.Machine Sys2Proof.Safety

/-- Settles O28: the pairs of a train, summed. -/
theorem transmissionTicks : Obligations.TransmissionTicks := fun _ f hc => transmissionTicks_trainOf hc f

/-- Settles O32: GEN_TRAIN reads FRAME alone, which it does not write. -/
theorem genTrainResult : Obligations.GenTrainResult := by
  refine ⟨fun _ => decode_eq_ok_iff_encode.trans eq_comm, fun s => ⟨exec_eq_after .genTrain s, fun t ht => ?_⟩⟩
  obtain rfl := exec_eq_next_iff.mp ht
  exact exec_eq_after .genTrain _

/-- Settles O33: the hand-off records TRAIN as it stands. -/
theorem sendResult : Obligations.SendResult :=
  ⟨fun _ => decode_eq_ok_iff_encode.trans eq_comm, exec_eq_after .send⟩

/-- R41, R134: while the generator plays, the agents other than it and the reset can change only RXQ and the host's reads. -/
theorem turned_of_busy {s : State} {t : Turn} (hb : s.genBusy = true) (hdone : t ≠ .done) (hrst : t ≠ .rst) :
    ∃ q rs, turned t s = { s with rxq := q, reads := rs } := by
  cases t with
  | host => exact ⟨s.rxq, s.reads, hosted_of_waiting (.inl hb)⟩
  | read k => exact ⟨s.rxq, _, rfl⟩
  | rx b loss => exact ⟨_, s.reads, rxPush_eq_setRxq s Config.cfg b loss⟩
  | done => exact absurd rfl hdone
  | rst => exact absurd rfl hrst

/-- R194: a step of a busy block changes the schedule and no more than the turn does. -/
theorem stepped_of_busy {s : State} (hb : s.genBusy = true) (hdone : Turn.done ∉ s.sched) (hrst : Turn.rst ∉ s.sched) :
    ∃ q rs, stepped s = { s with rxq := q, reads := rs, sched := s.sched.tail } := by
  cases hs : s.sched with
  | nil => exact ⟨s.rxq, s.reads, by rw [stepped_of_idle hs, List.tail_nil, ← hs]⟩
  | cons t ts =>
    rw [hs, List.mem_cons, not_or] at hdone hrst
    obtain ⟨q, rs, e⟩ := turned_of_busy (s := s.setSched ts) hb (Ne.symm hdone.1) (Ne.symm hrst.1)
    exact ⟨q, rs, by rw [stepped_of_sched hs, e]; rfl⟩

/-- R134, R135: without a completion or a reset to come, the wait changes only RXQ, the host's reads and the schedule. -/
theorem steppedN_of_busy (n : Nat) {s : State} (hb : s.genBusy = true) (hdone : Turn.done ∉ s.sched)
    (hrst : Turn.rst ∉ s.sched) :
    ∃ q rs ts, steppedN n s = { s with rxq := q, reads := rs, sched := ts } := by
  induction n generalizing s with
  | zero => exact ⟨s.rxq, s.reads, s.sched, rfl⟩
  | succ n ih =>
    obtain ⟨q, rs, e⟩ := stepped_of_busy hb hdone hrst
    have htail {t : Turn} (h : t ∉ s.sched) : t ∉ (stepped s).sched :=
      fun hmem => h (List.mem_of_mem_tail (stepped_sched s ▸ hmem))
    obtain ⟨q', rs', ts, e'⟩ := ih (s := stepped s) (by rw [e]; exact hb) (htail hdone) (htail hrst)
    exact ⟨q', rs', ts, by rw [steppedN, e', e]⟩

/-- Settles O51: no register shows RXQ, the host's reads or the schedule. -/
theorem busyBlockWaitsForDone : Obligations.BusyBlockWaitsForDone := by
  intro n s hb hdone hrst
  obtain ⟨q, rs, ts, e⟩ := steppedN_of_busy n hb hdone hrst
  refine ⟨_, runSteps_eq n s, ?_⟩
  rw [e]
  exact ⟨hb, rfl, rfl, fun _ => rfl⟩

end Sys2Proof.Laws

/-! What TLM_DECODE leaves, by the bytes that wait: nine data bytes `d` and a checksum byte `b` at the end, or too few bytes
(42_telemetry.md R150 to R161). -/

namespace Sys2Proof.Machine

/-- R53: a big-endian field as a number. -/
theorem be16_eq_ofNat (hi lo : Byte) : be16 hi lo = BitVec.ofNat 16 (hi.toNat * 256 + lo.toNat) := by
  apply BitVec.eq_of_toNat_eq
  rw [be16, toNat_append_eq_mul_add, BitVec.toNat_ofNat]
  omega

/-- R153: the checksum byte stands after the bytes it covers. -/
@[simp] theorem checkedBytes_push (d : Vector Byte 9) (b : Byte) : checkedBytes (d.push b) = d := by
  ext i hi
  simp [checkedBytes]

/-- R153: the check of nine data bytes and a checksum byte. -/
@[simp] theorem tlmCheckOk_push (c : Cfg) (d : Vector Byte 9) (b : Byte) :
    tlmCheckOk c (d.push b) = (c.tlmCheck d == b) := by
  simp [tlmCheckOk]

section

variable {c : Cfg} {s : State} {old : List Byte} {d : Vector Byte 9} {b : Byte} (hq : s.rxq = old ++ (d.push b).toList)
include hq

theorem ten_le_length_of_frame : 10 ≤ s.rxq.length := by
  simp [hq]

/-- R152: the bytes before the last ten are not looked at. -/
theorem tlmCheckOk_of_frame : tlmCheckOk c (newest10 s.rxq) = (c.tlmCheck d == b) := by
  rw [hq, newest10_append, tlmCheckOk_push]

/-- R154, R155: with the checksum byte that the data bytes ask for, TLM_DECODE accepts. -/
theorem tlmDecodeWith_of_checksum_eq (hk : c.tlmCheck d = b) :
    tlmDecodeWith c s = ((s.setReqIllegal false).setRxq []).latchTlm (d.push b) := by
  rw [tlmDecodeWith_of_accepted (ten_le_length_of_frame hq) (by rw [tlmCheckOk_of_frame hq, hk, beq_self_eq_true]),
    hq, newest10_append]

/-- R156: with any other checksum byte TLM_DECODE rejects. -/
theorem tlmDecodeWith_of_checksum_ne (hk : c.tlmCheck d ≠ b) :
    tlmDecodeWith c s = ((s.setReqIllegal false).setRxq []).setTlmLast .badsum :=
  tlmDecodeWith_of_badsum (ten_le_length_of_frame hq) (by rw [tlmCheckOk_of_frame hq, beq_eq_false_iff_ne.mpr hk])

end

/-- R152: at least `n` bytes end in `n` bytes. -/
theorem exists_eq_append_toList {n : Nat} {q : List Byte} (h : n ≤ q.length) :
    ∃ (old : List Byte) (d : Vector Byte n), q = old ++ d.toList :=
  ⟨q.take (q.length - n), ⟨(q.drop (q.length - n)).toArray, by simp; omega⟩, (q.take_append_drop _).symm⟩

end Sys2Proof.Machine

namespace Sys2Proof.Laws

open Sys2Proof.Machine

/-- Settles O37: the frame is latched, and its two-byte fields are big-endian. -/
theorem tlmAcceptsNewestFrame : Obligations.TlmAcceptsNewestFrame := by
  intro s old b0 b1 b2 b3 b4 b5 b6 b7 b8 b9 hq hk
  rw [exec_eq_after, after, tlmDecodeWith_of_checksum_eq (d := #v[b0, b1, b2, b3, b4, b5, b6, b7, b8]) hq hk]
  simp only [← be16_eq_ofNat]
  rfl

/-- Settles O36: no bytes to parse. -/
theorem tlmShortRead : Obligations.TlmShortRead := by
  intro s h
  rw [exec_eq_after, after, tlmDecodeWith_of_short h]
  rfl

/-- Settles O38: only RXQ and the flags are written. -/
theorem tlmRejectsBadChecksum : Obligations.TlmRejectsBadChecksum := by
  intro s old b0 b1 b2 b3 b4 b5 b6 b7 b8 b9 hq hk
  rw [exec_eq_after, after, tlmDecodeWith_of_checksum_ne (d := #v[b0, b1, b2, b3, b4, b5, b6, b7, b8]) hq hk]
  rfl

/-- Settles O39: the last nine bytes before the checksum byte ask for one checksum byte, which is the accepted one. -/
theorem checksumByteFlipRejected : Obligations.ChecksumByteFlipRejected := by
  intro s t q b b' hlen hq hne ht hok
  obtain ⟨old, d, rfl⟩ := exists_eq_append_toList hlen
  have hframe (x : Byte) : old ++ d.toList ++ [x] = old ++ (d.push x).toList := by
    rw [Vector.toList_push, List.append_assoc]
  have hb : Config.cfg.tlmCheck d = b := by
    by_contra hk
    rw [exec_eq_next_iff, after, tlmDecodeWith_of_checksum_ne (hq.trans (hframe b)) hk] at ht
    rw [← ht] at hok
    cases hok
  have hk : Config.cfg.tlmCheck d ≠ b' := hb ▸ hne.symm
  rw [exec_eq_after, after, tlmDecodeWith_of_checksum_ne (hframe b') hk]
  rfl

end Sys2Proof.Laws

/-! The check values of CRC8_07, and the physical values of the latched registers (42_telemetry.md R160, R162 to R167). -/

namespace Sys2Proof

/-- R6(d): an even number of poles is a whole number of pairs. -/
theorem Cfg.two_mul_polePairs {c : Cfg} (h : c.wf = true) : 2 * (c.motorPoles / 2) = c.motorPoles :=
  Nat.mul_div_cancel' (Nat.dvd_of_mod_eq_zero (wf_poles h).1)

/-- R6(d), R167: the motor has at least one pole pair. -/
theorem Cfg.polePairs_ne_zero {c : Cfg} (h : c.wf = true) : c.motorPoles / 2 ≠ 0 :=
  (Nat.div_pos (wf_poles h).2 two_pos).ne'

namespace Machine

/-- Settles O43, by computing the three checks. -/
theorem crcCheckValues : Obligations.CrcCheckValues := by
  unfold Obligations.CrcCheckValues
  decide +kernel

/-- R163, R164: a 16-bit register read in hundredths. -/
theorem hundredths_bounds (x : BitVec 16) :
    (x.toNat : Rat) / 100 * 100 = x.toNat ∧ (0 : Rat) ≤ x.toNat / 100 ∧ (x.toNat : Rat) / 100 ≤ 65535 / 100 := by
  have hx : (x.toNat : Rat) ≤ 65535 := by exact_mod_cast Nat.le_of_lt_succ x.isLt
  exact ⟨div_mul_cancel₀ _ (by norm_num), by positivity, by gcongr⟩

/-- R167: the mechanical RPM, back over the pole pairs, is the electrical one. -/
theorem mechanicalRPM_mul_polePairs {c : Cfg} (hc : c.wf = true) (s : State) :
    mechanicalRPM c s * ((c.motorPoles / 2 : Nat) : Rat) = electricalRPM s :=
  div_mul_cancel₀ _ (Nat.cast_ne_zero.mpr (Cfg.polePairs_ne_zero hc))

/-- R167: the mechanical RPM from the register and the pole count. -/
theorem mechanicalRPM_eq {c : Cfg} (hc : c.wf = true) (s : State) :
    mechanicalRPM c s = (s.tlmErpm.toNat : Rat) * 200 / c.motorPoles := by
  have hpoles : (c.motorPoles : Rat) = 2 * ((c.motorPoles / 2 : Nat) : Rat) := by
    exact_mod_cast (Cfg.two_mul_polePairs hc).symm
  have hscale : (s.tlmErpm.toNat : Rat) * 200 = 2 * electricalRPM s := by
    rw [electricalRPM, Nat.cast_mul]; push_cast; ring
  rw [hpoles, hscale, mul_div_mul_left _ _ two_ne_zero, mechanicalRPM]

/-- Settles O44: the registers' widths bound the readouts, and the pole pairs are whole and there are some. -/
theorem readoutUnits : Obligations.ReadoutUnits := by
  refine ⟨fun s => ?_, fun c s hc => ⟨mechanicalRPM_eq hc s, mechanicalRPM_mul_polePairs hc s, Cfg.polePairs_ne_zero hc⟩⟩
  obtain ⟨hvolt, hvolt0, hvoltMax⟩ := hundredths_bounds s.tlmVolt
  obtain ⟨hcurr, hcurr0, hcurrMax⟩ := hundredths_bounds s.tlmCurr
  have herpm : s.tlmErpm.toNat * 100 ≤ 6553500 := by omega
  exact ⟨rfl, Nat.le_of_lt_succ s.tlmTemp.isLt, hvolt, hvolt0, hvoltMax, hcurr, hcurr0, hcurrMax,
    rfl, Nat.le_of_lt_succ s.tlmCons.isLt, rfl, herpm⟩

end Machine
end Sys2Proof

/-! No step and no request faults, and an illegal word leaves nothing but its flag (60_exceptions.md R180 to R183). -/

namespace Sys2Proof.Laws

open Sys2Proof.Machine Sys2Proof.Safety

/-- Settles O52: the step and every request are total functions of the state. -/
theorem everyStepGoesOn : Obligations.EveryStepGoesOn :=
  ⟨fun s => ⟨_, step_eq_stepped s⟩, fun i s => ⟨_, exec_eq_after i s⟩⟩

/-- R182: the step in which a ready block takes an illegal word. -/
theorem stepped_of_illegal {s : State} {w : Word} {ws : List Word} {ts : List Turn} {e : Illegal}
    (hs : s.sched = .host :: ts) (hr : s.reqs = w :: ws) (hb : s.genBusy = false) (hd : decode w = .error e) :
    stepped s = { s with reqIllegal := true, reqs := ws, sched := ts } := by
  rw [stepped_of_ready hs hr hb, performed_of_error hd]; rfl

/-- Settles O48: the rejected word leaves the block ready, and the legal word after it clears the flag. -/
theorem illegalRequestOnlySetsFlag : Obligations.IllegalRequestOnlySetsFlag := by
  intro s w ws ts e hs hr hb hd
  have hrejected := stepped_of_illegal hs hr hb hd
  refine ⟨by rw [step_eq_stepped, hrejected], fun w' ws' ts' i hts hws hlegal => ?_⟩
  have haccepted : stepped (stepped s) = after i (((stepped s).setSched ts').setReqs ws') := by
    rw [stepped_of_ready (by rw [hrejected]; exact hts) (by rw [hrejected]; exact hws) (by rw [hrejected]; exact hb),
      performed_of_ok hlegal]
  exact ⟨_, runSteps_eq 2 s, by simp [steppedN, haccepted], by simp [steppedN, haccepted]⟩

end Sys2Proof.Laws

/-! The encoder side does not depend on the telemetry or on the host's reads (60_exceptions.md R181, R195; 10_state.md R43): every
move keeps two states in agreement, and the moves of the serial receiver and the host's reads leave the encoder side as it is. -/

namespace Sys2Proof.Safety.SameEncoder

open Sys2Proof.Machine Sys2Proof.Laws

variable {s s' s'' : State}

theorem refl (s : State) : SameEncoder s s := ⟨rfl, rfl, rfl, rfl, rfl, rfl⟩

theorem symm (h : SameEncoder s s') : SameEncoder s' s :=
  ⟨h.frame.symm, h.train.symm, h.reqIllegal.symm, h.genBusy.symm, h.sent.symm, h.reqs.symm⟩

theorem trans (h : SameEncoder s s') (h' : SameEncoder s' s'') : SameEncoder s s'' :=
  ⟨h.frame.trans h'.frame, h.train.trans h'.train, h.reqIllegal.trans h'.reqIllegal, h.genBusy.trans h'.genBusy,
    h.sent.trans h'.sent, h.reqs.trans h'.reqs⟩

/-- R43: whatever its outcome, TLM_DECODE does to the encoder side what NOP does. -/
theorem tlmDecodeWith_nop (c : Cfg) (s : State) : SameEncoder (tlmDecodeWith c s) (s.setReqIllegal false) := by
  obtain ⟨_, e⟩ | ⟨_, _, e⟩ | ⟨_, _, e⟩ := tlmDecodeWith_cases s c <;> rw [e] <;> exact { refl _ with }

/-- A request writes the encoder side from the encoder side alone. -/
theorem after_congr (h : SameEncoder s s') (i : Instr) : SameEncoder (after i s) (after i s') := by
  have hcleared : SameEncoder (s.setReqIllegal false) (s'.setReqIllegal false) := { h with reqIllegal := rfl }
  cases i with
  | nop => exact hcleared
  | encThr thr t => exact { hcleared with frame := rfl }
  | encCmd code t => exact { hcleared with frame := rfl }
  | genTrain => exact { hcleared with train := congrArg (trainOf Config.cfg) h.frame }
  | send => exact { hcleared with genBusy := rfl, sent := by simp [after, h.sent, h.train] }
  | tlmDecode => exact (tlmDecodeWith_nop _ s).trans (hcleared.trans (tlmDecodeWith_nop _ s').symm)

theorem performed_congr (h : SameEncoder s s') (w : Word) : SameEncoder (performed w s) (performed w s') := by
  cases hd : decode w with
  | ok i => simpa only [performed_of_ok hd] using h.after_congr i
  | error e => simpa only [performed_of_error hd] using { h with reqIllegal := rfl }

/-- R41: both blocks wait, or both take the same word. -/
theorem hosted_congr (h : SameEncoder s s') : SameEncoder (hosted s) (hosted s') := by
  obtain ⟨hr, e⟩ | ⟨hb, e⟩ | ⟨w, ws, hr, hb, e⟩ := hosted_cases s
  · rw [e, hosted_of_waiting (.inr (h.reqs ▸ hr))]; exact h
  · rw [e, hosted_of_waiting (.inl (h.genBusy ▸ hb))]; exact h
  · rw [e, hosted_of_ready (h.reqs ▸ hr) (h.genBusy ▸ hb)]
    have htaken : SameEncoder (s.setReqs ws) (s'.setReqs ws) := { h with reqs := rfl }
    exact htaken.performed_congr w

/-- R36: a push leaves the encoder side. -/
theorem turned_rx (b : Byte) (loss : Loss) (s : State) : SameEncoder (turned (.rx b loss) s) s := by
  rw [turned, rxPush_eq_setRxq]; exact { refl s with }

/-- R39: a host read leaves the encoder side. -/
theorem turned_read (k : RegIndex) (s : State) : SameEncoder (turned (.read k) s) s := { refl s with }

/-- Whichever agent moves, it keeps the agreement. -/
theorem turned_congr (h : SameEncoder s s') (t : Turn) : SameEncoder (turned t s) (turned t s') := by
  cases t with
  | host => exact h.hosted_congr
  | read k => exact (turned_read k s).trans (h.trans (turned_read k s').symm)
  | rx b loss => exact (turned_rx b loss s).trans (h.trans (turned_rx b loss s').symm)
  | done => exact { h with genBusy := rfl }
  | rst => exact { refl (resetBlock s) with sent := h.sent, reqs := h.reqs }

end Sys2Proof.Safety.SameEncoder

namespace Sys2Proof.Laws

open Sys2Proof.Machine Sys2Proof.Safety

/-- The state after the moves of a list, one after the other. -/
def turnedAll : List Turn → State → State
  | [], s => s
  | t :: ts, s => turnedAll ts (turned t s)

theorem turnedAll_congr (ts : List Turn) {s s' : State} (h : SameEncoder s s') :
    SameEncoder (turnedAll ts s) (turnedAll ts s') := by
  induction ts generalizing s s' with
  | nil => exact h
  | cons t ts ih => exact ih (h.turned_congr t)

/-- R195: without the pushes and the reads the encoder side moves in the same way. -/
theorem turnedAll_encoderTurns (ts : List Turn) (s : State) :
    SameEncoder (turnedAll ts s) (turnedAll (encoderTurns ts) s) := by
  induction ts generalizing s with
  | nil => exact .refl s
  | cons t ts ih =>
    cases t with
    | host | done | rst => exact ih (turned _ s)
    | read k => exact (turnedAll_congr ts (.turned_read k s)).trans (ih s)
    | rx b loss => exact (turnedAll_congr ts (.turned_rx b loss s)).trans (ih s)

/-- To the encoder side, the run of a schedule is the moves that the schedule names. -/
theorem steppedN_sched (s : State) : SameEncoder (steppedN s.sched.length s) (turnedAll s.sched s) := by
  generalize hs : s.sched = ts
  induction ts generalizing s with
  | nil => exact .refl s
  | cons t ts ih =>
    have hsched : SameEncoder (s.setSched ts) s := { SameEncoder.refl s with }
    have hstep : SameEncoder (stepped s) (turned t s) := stepped_of_sched hs ▸ hsched.turned_congr t
    exact (ih (stepped s) (by rw [stepped_sched, hs, List.tail_cons])).trans (turnedAll_congr ts hstep)

/-- Settles O58: to the encoder side both runs are the moves of one list, begun in states that agree. -/
theorem telemetryNeverAltersEncoder : Obligations.TelemetryNeverAltersEncoder := by
  intro s s' h hturns
  have hrun (v : State) : SameEncoder (steppedN v.sched.length v) (turnedAll (encoderTurns v.sched) v) :=
    (steppedN_sched v).trans (turnedAll_encoderTurns v.sched v)
  refine ⟨_, _, runSteps_eq _ s, runSteps_eq _ s', (hrun s).trans (.trans ?_ (hrun s').symm)⟩
  rw [hturns]
  exact turnedAll_congr _ h

end Sys2Proof.Laws

/-! Transmission goes on, whatever words the host issues (60_exceptions.md R195; 10_state.md R41). -/

namespace Sys2Proof.Laws

open Sys2Proof.Machine Sys2Proof.Safety

/-- R134: a word appends one train to the output history if it is SEND, and none otherwise. -/
theorem performed_sent (w : Word) (s : State) :
    (performed w s).sent = s.sent ++ if decode w = .ok .send then [s.train] else [] := by
  obtain ⟨i, hd, e⟩ | ⟨_, hd, e⟩ := performed_cases w s
  · rw [e, hd]
    cases i with
    | send => rfl
    | nop | encThr | encCmd | genTrain => simp [after]
    | tlmDecode => simpa [after] using (SameEncoder.tlmDecodeWith_nop Config.cfg s).sent
  · simp [e, hd]

/-- R41, R135: the host's turn of a ready block takes its word, and the completion after it leaves the block ready. -/
theorem steppedN_two_of_ready {s : State} {w : Word} {ws : List Word} {ts : List Turn}
    (hs : s.sched = .host :: .done :: ts) (hr : s.reqs = w :: ws) (hb : s.genBusy = false) :
    steppedN 2 s = ((performed w ((s.setSched (.done :: ts)).setReqs ws)).setSched ts).setGenBusy false := by
  have hdone : (stepped s).sched = .done :: ts := by rw [stepped_sched, hs, List.tail_cons]
  rw [steppedN, steppedN, steppedN, stepped_of_sched hdone, stepped_of_ready hs hr hb, turned]

/-- R195: the run that takes all the words `ws`, with a completion after each. -/
theorem steppedN_of_completing (ws : List Word) {s : State} {ts : List Turn} (hr : s.reqs = ws) (hb : s.genBusy = false)
    (hs : s.sched = (List.replicate ws.length [Turn.host, Turn.done]).flatten ++ ts) :
    ∃ u, steppedN (2 * ws.length) s = u ∧ u.reqs = [] ∧ u.genBusy = false ∧ u.sched = ts ∧ s.sent <+: u.sent ∧
      u.sent.length = s.sent.length + ws.countP (fun w => decide (decode w = .ok .send)) := by
  induction ws generalizing s with
  | nil => exact ⟨s, rfl, hr, hb, hs, ⟨[], List.append_nil _⟩, rfl⟩
  | cons w ws ih =>
    have htwo := steppedN_two_of_ready hs hr hb
    have hsent : (steppedN 2 s).sent = s.sent ++ if decode w = .ok .send then [s.train] else [] := by
      rw [htwo]
      exact performed_sent w _
    obtain ⟨u, hu, hreqs, hready, hsched, hbegins, hlength⟩ := ih (s := steppedN 2 s)
      (by simp [htwo]) (by simp [htwo]) (by simp [htwo])
    refine ⟨u, ?_, hreqs, hready, hsched, ?_, ?_⟩
    · rw [List.length_cons, Nat.mul_succ, Nat.add_comm, steppedN_add, hu]
    · exact List.IsPrefix.trans ⟨_, hsent.symm⟩ hbegins
    · rw [hlength, hsent, List.countP_cons, List.length_append]
      by_cases hw : decode w = .ok .send
      · simp [hw]; omega
      · simp [hw]

/-- Settles O60: the run over the host's whole list. -/
theorem transmissionNeverStops : Obligations.TransmissionNeverStops := by
  intro s ts hb hs
  obtain ⟨u, hu, hreqs, hready, hsched, hbegins, hlength⟩ := steppedN_of_completing s.reqs rfl hb hs
  exact ⟨u, by rw [runSteps_eq, hu], hreqs, hready, hsched, hbegins, hlength⟩

end Sys2Proof.Laws

/-! A reset from any state, and the one ordering rule between the requests (70_reset_and_hazards.md R210, R211, R223). -/

namespace Sys2Proof.Laws

open Sys2Proof.Machine Sys2Proof.Safety

/-- R210: the step that takes a reset turn resets the block, a busy one too. -/
theorem stepped_of_reset {s : State} {ts : List Turn} (hs : s.sched = .rst :: ts) :
    stepped s = resetBlock (s.setSched ts) :=
  stepped_of_sched hs

/-- R211: a block just reset takes the first request of the host's list. -/
theorem stepped_resetBlock {s : State} {w : Word} {ws : List Word} {us : List Turn} (hs : s.sched = .host :: us)
    (hr : s.reqs = w :: ws) : stepped (resetBlock s) = performed w (((resetBlock s).setSched us).setReqs ws) :=
  stepped_of_ready hs hr s.resetBlock_genBusy

/-- Settles O3: the reset leaves the block ready, so the host's turn after it takes the word. -/
theorem resetTurnRestoresBlock : Obligations.ResetTurnRestoresBlock := by
  intro s ts hs
  refine ⟨step_of_sched hs, fun w ws us i hr hts hd => ?_⟩
  calc runSteps 2 s
    _ = .next (stepped (resetBlock (s.setSched ts))) := by
      rw [runSteps_succ, stepped_of_reset hs, runSteps_succ, runSteps_zero]
    _ = .next (after i (((resetBlock (s.setSched ts)).setSched us).setReqs ws)) := by
      rw [stepped_resetBlock (s := s.setSched ts) hts hr, performed_of_ok hd]
    _ = _ := (exec_eq_after i _).symm

/-- R104, R105: the encoder requests leave TRAIN and the output history. -/
theorem after_encoder_train_sent {i : Instr} (hi : (∃ thr t, i = .encThr thr t) ∨ (∃ code t, i = .encCmd code t))
    (s : State) : (after i s).train = s.train ∧ (after i s).sent = s.sent := by
  obtain ⟨thr, t, rfl⟩ | ⟨code, t, rfl⟩ := hi
  · exact ⟨rfl, rfl⟩
  · exact ⟨rfl, rfl⟩

/-- R134: SEND records TRAIN as it stands. -/
theorem after_send_sent (s : State) : (after .send s).sent = s.sent ++ [s.train] := rfl

/-- R133: GEN_TRAIN rebuilds TRAIN from FRAME and sends nothing. -/
theorem after_genTrain_train_sent (s : State) :
    (after .genTrain s).train = trainOf Config.cfg s.frame ∧ (after .genTrain s).sent = s.sent := ⟨rfl, rfl⟩

/-- Settles O34: the encoder request leaves TRAIN as it was, and only GEN_TRAIN brings its frame there. -/
theorem staleTrainWithoutGenTrain : Obligations.StaleTrainWithoutGenTrain := by
  intro i s a b hi ha
  obtain rfl := exec_eq_next_iff.mp ha
  obtain ⟨htrain, hsent⟩ := after_encoder_train_sent hi s
  refine ⟨fun hb => ?_, fun g hg hb => ?_⟩
  · rw [← exec_eq_next_iff.mp hb, after_send_sent, hsent, htrain]
  · obtain rfl := exec_eq_next_iff.mp hg
    obtain ⟨hnew, hkept⟩ := after_genTrain_train_sent (after i s)
    rw [← exec_eq_next_iff.mp hb, after_send_sent, hkept, hnew, hsent]

end Sys2Proof.Laws
